-- ==== Sys2Proof/Word.lean ====
section
/-! DEFINITION. The words of the SE-430: octets, 32-bit words, offsets of the exchange area (00, Conventions). -/

namespace Sys2Proof

/-- An octet of a slot, a byte of memory or a byte of a record (00, Octets). -/
abbrev Octet := BitVec 8

/-- A word of memory or of the register window, 32 bits (00, Numbers and ranges). -/
abbrev Word := BitVec 32

/-- An offset of the 1 MiB exchange area: below 0x100000, so 20 bits (01 R1). -/
abbrev Offset := BitVec 20

/-- An address of the local bus. -/
abbrev BusAddress := BitVec 32

/-- The number of one of the four ports P0 to P3 (00, Ports and slots). -/
abbrev Port := Fin 4

/-- The number of one of the sixteen streams (06). -/
abbrev StreamNo := Fin 16

/-- The number of one of the eight scan groups (05). -/
abbrev GroupNo := Fin 8

/-- A traffic slot index, `30 × port + (slot − 2)` (00, Ports and slots). -/
abbrev SlotIndex := Fin 120

/-- The 32 octets of a port frame, slot 0 to slot 31 (02 2.2). -/
abbrev Frame := Vector Octet 32

end Sys2Proof
end

