-- ==== Sys2Proof/Syntax.lean ====
section
/-! DEFINITION. The commands of the SE-430, one constructor for each row of spec/opcode_table.json, and their operands. -/

namespace Sys2Proof

/-- One cycle of the local bus, met by one access of the memory port (log 5).
`host`: the bytes that the host stores before this access, in order.
`error`: the bus ends the access with an error indication (01 R1). -/
structure BusCycle where
  host : List (BusAddress × Octet) := []
  error : Bool := false
  deriving DecidableEq, Repr

/-- A piece of the work that a frame boundary makes due (spec/95, FRAME_BOUNDARY; log 3).
Where a rule says that two things at one boundary "may come in either order", they are two pieces,
or one piece and a command of its own. -/
inductive BoundaryWork where
  /-- TAP_OCTET or FEED_OCTET of one stream (06 R112, R113). -/
  | stream (n : StreamNo)
  /-- LOUD_COUNT (04 R79). -/
  | activity
  /-- PERIOD_ADVANCE (09 R164). -/
  | period
  /-- The sender's part of CHANNEL_FRAME_WORK (07 R127 to R131). -/
  | sender (p : Port)
  /-- The receiver's part of CHANNEL_FRAME_WORK (07 R135 to R139). -/
  | receiver (p : Port)
  /-- HOLDING_RETRY of one port (08 R150). -/
  | retry (p : Port)
  /-- The changes due and FORM_OCTETS (03 R49, R53); the flag gives the order of two changes due at once (03 R71 to R73). -/
  | switch (overlayFirst : Bool)
  /-- The last stage of R49: the source octets are replaced with those of the frame that begins. -/
  | sources
  /-- WALK (01 R6). -/
  | walk
  /-- The boundary has passed: what is left of its work is done, and a take that follows falls between two boundaries
  (02 R29, 04 R78; log 49). -/
  | passed
  deriving DecidableEq, Repr

/-- Work whose memory accesses may be in progress when a reset comes (01 R23, 03 R48, 06 R107; log 6). -/
inductive Interrupted where
  | headerInit
  | heldWrite
  | retirement
  | queryMap
  | openStream
  | closeStream
  | handover (n : StreamNo)
  deriving DecidableEq, Repr

/-- Work that a reset finds in progress, with the bus cycles of the accesses it had made by then (log 6). -/
structure Cut where
  work : Interrupted
  cycles : List BusCycle
  deriving DecidableEq, Repr

/-- The commands: one constructor for each row of the table.
A command whose event is not due changes nothing (log 4). -/
inductive Instr where
  /-- FRAME_BOUNDARY: with `edge`, FREF rises (02 R27); then the named works of the boundary are done, in this order (log 3). -/
  | frameBoundary (edge : Bool) (works : List BoundaryWork) (bus : List BusCycle)
  /-- BLOCK_BOUNDARY; the exchanges of the streams in `late` end in a later STREAM_ACCESS_COMPLETION (06 R117). -/
  | blockBoundary (late : List StreamNo) (bus : List BusCycle)
  | scanStep
  | powerOnReset (cuts : List Cut)
  | softReset (value : Word) (cuts : List Cut)
  /-- RUN: a write of `value` to CONTROL with RESUME 0 (10 R178; log 26). -/
  | run (value : Word) (bus : List BusCycle)
  /-- RESUME: a write of `value` to CONTROL with RESUME 1 (10 R178; log 26). -/
  | resume (value : Word) (bus : List BusCycle)
  | areaBase (value : Word)
  | attention (value : Word)
  | attentionEnable (value : Word)
  /-- REGISTER_WRITE_IGNORED: offset in the window, value, byte lanes strobed (10 R177). -/
  | registerWriteIgnored (offset : BitVec 5) (value : Word) (lanes : BitVec 4)
  | heldWrite (bus : List BusCycle)
  | retirement (bus : List BusCycle)
  | nop
  | portSetup
  | setNode
  | editMap
  | dropTag
  | queryMap (bus : List BusCycle)
  | setActivity
  | setScan
  | scanControlHold
  | scanControlRelease
  | scanControlStep
  | scanControlSelect
  | openStream (bus : List BusCycle)
  | closeStream (bus : List BusCycle)
  | send
  | listen
  | probe
  | recallPool
  | supervise
  | pulse
  | setFallback
  | enter
  | recover
  /-- RECEIVE_FRAME: a receive frame on PnRX, with or without its mark at the expected position (02 R31, R32; log 18). -/
  | receiveFrame (p : Port) (mark : Bool) (octets : Frame)
  | aligned (p : Port)
  | misaligned (p : Port)
  | wakeCountReady (p : Port)
  | quietCountLoss (p : Port)
  | identifyTimeout (p : Port)
  | lostTimerExpiry (p : Port)
  | identify (p : Port)
  | portStatusWrite (p : Port) (bus : List BusCycle)
  /-- ACTIVITY_IMAGE_WRITE: the next `words` words of the image write (04 R82; log 30). -/
  | activityImageWrite (words : Nat) (bus : List BusCycle)
  | handover (n : StreamNo) (bus : List BusCycle)
  | takeTimeout (p : Port)
  | quitTimerExpiry (p : Port)
  | stallTimerExpiry (p : Port)
  | haltTimerExpiry (p : Port)
  | holdingWaitExpiry (p : Port)
  | noReply
  | phaseSecond
  | periodEnd
  | resetOutRelease
  | supervisionWordWrite (bus : List BusCycle)
  | streamAccessCompletion (n : StreamNo) (bus : List BusCycle)
  /-- CANDIDATE_MARK: a mark found at bit position `position` of the 256 (02 R31). -/
  | candidateMark (p : Port) (position : Fin 256)
  | poresetRelease
  deriving DecidableEq, Repr

end Sys2Proof
end

