-- ==== Sys2Proof/Decode.lean ====
section
/-! DEFINITION. The decoder over the table's bits: no row of spec/opcode_table.json gives any. -/

namespace Sys2Proof

/-- The command that a word spells by the table's bits: none, since the table's rows have no bits. -/
def decodeTableWord (_nbits _w : Nat) : Option Instr := none

end Sys2Proof
end

