-- ==== Sys2Proof/Config.lean ====
section
/-! DEFINITION. What the spec leaves open and the model fixes or leaves free. -/

namespace Sys2Proof

/-- What a byte of memory that nothing has written reads as.
DESIGN CHOICE (log 1, unsafe): the spec gives ordinary memory and no contents. -/
def Config.unlistedByte : Octet := 0x00

/-- Free value (log 12, safe): whether, at the first RUN after a reset, the write of the retire count word is made
when the write of the cursor offset word before it has failed.
01 R2 and R19 name both writes and do not say what the failure of the first does to the second. -/
opaque Config.secondHeaderWrite : Bool

end Sys2Proof
end

