-- ==== Sys2Proof/Machine/State.lean ====
section
/-! DEFINITION. The state of the SE-430, block by block, with each field's reset value as its default.
A field marked "own" is the model's mark for work made due, not a name of the spec (log 38). -/

namespace Sys2Proof.Machine

/-! ### The register window (10) -/

/-- The seven attention causes, in the order of their bits (10, cause table). -/
inductive Cause where
  | retire | chain | port | activity | stream | supervision | bus
  deriving DecidableEq, Repr

structure Registers where
  /-- CONTROL bit 0 (10 R178). -/
  run : Bool := false
  /-- AREA_BASE bits 31 to 20 (10 R180). -/
  areaBase : BitVec 12 := 0
  /-- The pending set (10 R181). -/
  attnPending : BitVec 7 := 0
  /-- The enable set (10 R182). -/
  attnEnable : BitVec 7 := 0
  /-- PORESET is asserted (10 R183). -/
  poreset : Bool := false
  deriving DecidableEq, Repr

/-! ### The chain walker and the retire path (01) -/

/-- The outcome codes (01, Outcome codes). -/
inductive OutcomeCode where
  | done | badKind | badLength | badField | badOffset | badSlot | duplicate | noStream | inUse | occupied
  | isProtected | state | linkDown | noRoute | hopsExhausted | takeTimeout | peerHalt | noListener | congested
  | noReply | recalled | busError
  deriving DecidableEq, Repr

inductive WalkerStatus where
  | stopped | idle | waiting | blocked | halted
  deriving DecidableEq, Repr

inductive HaltReason where
  | none | recordFailed | badLink | bus
  deriving DecidableEq, Repr

/-- What a block keeps of a record: its offset and its flags as read at take (01 R13, R15). -/
structure Held where
  offset : Offset
  notify : Bool
  haltOnFail : Bool
  deriving DecidableEq, Repr

/-- A candidate record as the walker has read it: POSTED, past the common checks, with its body (01 R9). -/
structure WorkRecord where
  held : Held
  kind : Octet
  body : List Word
  deriving DecidableEq, Repr

/-- The walk in progress (01 R6, R22): none; a look has found a record that no command has taken yet;
or a take waits for the retire path to serve its request (01 R11, log 8). -/
inductive Walk where
  | none
  | found (r : WorkRecord)
  | taking
  deriving DecidableEq, Repr

structure Walker where
  status : WalkerStatus := .stopped
  haltReason : HaltReason := .none
  cursor : Option Offset := .none
  chainStarted : Bool := false
  headerWritten : Bool := false
  retireCount : Word := 0
  /-- Takes this frame, 0 to 4 (01 R6). -/
  takes : Nat := 0
  walk : Walk := .none
  /-- The halt that waits for the take in progress (01 R17). -/
  haltPending : Option HaltReason := .none
  /-- RUN was written 0 during the take in progress (01 R22). -/
  stopping : Bool := false
  /-- Own: this boundary's walk is still to begin. -/
  walkDue : Bool := false
  deriving DecidableEq, Repr

/-- A request at the retire path (01 R15). `awaited`: the walker's take waits for it. -/
inductive Request where
  | held (offset : Offset) (awaited : Bool)
  | retire (h : Held) (outcome : OutcomeCode) (detail : Octet) (results : List (Nat × Word)) (awaited : Bool)
  deriving DecidableEq, Repr

/-! ### The frame timer and the port line units (02) -/

structure FrameTimer where
  /-- Frame number within the block (02 R27). -/
  number : Fin 64 := 63
  /-- Own: the work of this block boundary is still to be done. -/
  blockDue : Bool := false
  /-- Own: the scan step of this boundary is still to be done. -/
  scanDue : Bool := false
  /-- Own: the present boundary has passed, and what happens now falls between two boundaries (log 49). -/
  passed : Bool := false
  deriving DecidableEq, Repr

inductive LineState where
  | off | quiet | awake | ready | linked | lost
  deriving DecidableEq, Repr

inductive RxStatus where
  | stopped | hunting | aligned
  deriving DecidableEq, Repr

/-- The idle octet (00, Octets). -/
abbrev idleOctet : Octet := 0xFF

/-- A frame of 32 idle octets (02 R33). -/
abbrev idleFrame : Frame := Vector.replicate 32 idleOctet

structure PortReceiver where
  status : RxStatus := .stopped
  markCount : Nat := 0
  missCount : Nat := 0
  /-- The candidate frame position, a bit position of the 256 (02 R31). -/
  candidate : Option (Fin 256) := none
  /-- The last receive frame completed since the previous boundary (02 R33). -/
  latest : Option Frame := none
  /-- The inbound frame presented at the last boundary (02 R33). -/
  presented : Frame := idleFrame
  deriving DecidableEq, Repr

/-- What the frame being sent is formed from (02 R29, R30; log 16). -/
structure Transmit where
  line : LineState := .off
  loop : Bool := false
  slot0 : Octet := idleOctet
  marks : BitVec 5 := 0
  deriving DecidableEq, Repr

structure LineUnit where
  line : LineState := .off
  loop : Bool := false
  peer : Octet := 0
  wakeCount : Nat := 0
  quietCount : Nat := 0
  peerSeen : Bool := false
  identifyTimer : Option Nat := none
  lostTimer : Option Nat := none
  /-- A write of the port status word is still to be made (02 R45). -/
  statusDue : Bool := false
  rx : PortReceiver := {}
  tx : Transmit := {}
  /-- Own: the looped frame of this frame has arrived (02 R43). -/
  loopArrived : Bool := false
  /-- The port is LINKED at the present boundary, as the consumers of its octets see it (02 R44, 03 R50; log 15). -/
  seen : Bool := false
  deriving DecidableEq, Repr

/-! ### The slot switch (03) -/

/-- A route source (03 R47); an inbound slot is named by its traffic slot index. -/
inductive Source where
  | none
  | slot (k : SlotIndex)
  | stream (n : StreamNo)
  | scan (g : GroupNo)
  | const (value : Octet)
  deriving DecidableEq, Repr

inductive RouteClass where
  | normal | urgent
  deriving DecidableEq, Repr

structure RouteEntry where
  source : Source := .none
  tag : Octet := 0
  cls : RouteClass := .normal
  marked : Bool := false
  deriving DecidableEq, Repr

/-- A held change (03 3.1). An edit is its two body words, unjudged until its boundary (03 R55). -/
inductive Change where
  | editList (edits : List (Word × Word))
  | dropTag (tag : Octet)
  | recover
  deriving DecidableEq, Repr

structure PendingChange where
  held : Held
  change : Change
  deriving DecidableEq, Repr

structure Displaced where
  target : SlotIndex
  entry : RouteEntry
  deriving DecidableEq, Repr

structure Switch where
  map : Vector RouteEntry 120 := Vector.replicate 120 {}
  slot : Option PendingChange := none
  overlayOrder : Bool := false
  displaced : List Displaced := []
  srcSlots : Vector Octet 120 := Vector.replicate 120 idleOctet
  srcStreams : Vector Octet 16 := Vector.replicate 16 idleOctet
  srcScans : Vector Octet 8 := Vector.replicate 8 idleOctet
  /-- Own: the inbound slot whose octet a scan group's source octet is, where it is one (log 15). -/
  scanFrom : Vector (Option SlotIndex) 8 := Vector.replicate 8 Option.none
  /-- Own: a group's source octet has been read ahead of the scan step of its boundary (05 R90, R98; log 47). -/
  scanAhead : Vector Bool 8 := Vector.replicate 8 false
  /-- The octets formed for the frame in progress (03 R49). -/
  out : Vector Octet 120 := Vector.replicate 120 idleOctet
  /-- Own: the record in the pending-change slot is due at this boundary (03 R53). -/
  changeDue : Bool := false
  /-- Own: the overlay is due at this boundary (03 R53). -/
  overlayDue : Bool := false
  /-- Own: the octets of this frame are still to be formed. -/
  formDue : Bool := false
  /-- Own: the source octets of this frame are still to be read. -/
  sourcesDue : Bool := false
  deriving DecidableEq, Repr

/-! ### The activity monitor (04) -/

structure SlotActivity where
  active : Bool := false
  loud : Nat := 0
  hang : Nat := 0
  deriving DecidableEq, Repr

structure Activity where
  threshold : Nat := 16
  onset : Nat := 8
  hang : Nat := 4
  watch : BitVec 120 := 0
  slots : Vector SlotActivity 120 := Vector.replicate 120 {}
  /-- Own: the slots counted loud at this boundary (log 15). -/
  counted : Vector Bool 120 := Vector.replicate 120 false
  imageDue : Bool := false
  /-- The next word of the image write under way (04 R82). -/
  imageNext : Option Nat := none
  /-- ACTIVITY attention follows the image write that the mark will bring (04 R85). -/
  raiseAfter : Bool := false
  /-- ACTIVITY attention follows the image write under way (04 R85). -/
  raiseNow : Bool := false
  /-- Own: the octets presented at this boundary are still to be judged. -/
  judgeDue : Bool := false
  /-- Own: the classification of this block boundary is still to be made. -/
  classifyDue : Bool := false
  deriving DecidableEq, Repr

/-! ### The scan unit (05) -/

inductive MemberSource where
  | slot (k : SlotIndex)
  | stream (n : StreamNo)
  deriving DecidableEq, Repr

structure Member where
  source : MemberSource
  dwell : Nat
  deriving DecidableEq, Repr

structure ScanGroup where
  members : List Member := []
  skipSilent : Bool := false
  hold : Bool := false
  current : Option Nat := none
  dwell : Nat := 0
  deriving DecidableEq, Repr

/-! ### The stream engine (06) -/

inductive StreamStatus where
  | opened | stalled | muted | fault
  deriving DecidableEq, Repr

inductive Direction where
  | tap (slot : SlotIndex)
  | feed
  deriving DecidableEq, Repr

inductive Half where
  | a | b
  deriving DecidableEq, Repr

/-- A memory access that a stream has issued and that ends some time later (06 R108, R112, R113, R117).
`late`: a frame boundary has come since the block boundary that issued the exchange. -/
inductive StreamAccess where
  | putWord (off : Offset) (w : Word)
  | getWord (off : Offset) (index : Nat)
  | resume (late : Bool)
  deriving DecidableEq, Repr

structure StreamDesc where
  status : StreamStatus
  dir : Direction
  halfA : Offset
  halfB : Offset
  len : Nat
  block : Offset
  notify : Bool
  half : Half := .a
  position : Nat := 0
  lastHanded : Option Half := none
  /-- The word buffer: octets collected (TAP) or the octets of word `bufferWord` of the half (FEED). -/
  buffer : List Octet := []
  bufferWord : Nat := 0
  /-- The current half is finished and not yet handed over (06 R115; log 20). -/
  finished : Bool := false
  accesses : List StreamAccess := []
  /-- Own: the exchange of this block boundary is still to be issued (06 R117). -/
  resumeDue : Bool := false
  deriving DecidableEq, Repr

structure Stream where
  /-- The descriptor, or none while the number is free (06 6.1). -/
  desc : Option StreamDesc := none
  current : Octet := idleOctet
  refs : Nat := 0
  /-- Own: the frame work of this boundary is still to be done. -/
  frameDue : Bool := false
  deriving DecidableEq, Repr

/-! ### The control channels (07) -/

inductive MessageKind where
  | identify | data | probe | probeReply | returned
  deriving DecidableEq, Repr

/-- A message without its check byte, which its other bytes decide (07 7.1; log 25). -/
structure Message where
  dest : Octet
  source : Octet
  hop : BitVec 4
  kind : MessageKind
  payload : List Octet
  deriving DecidableEq, Repr

/-- Whom the channel reports a message's end to (07 R125). -/
inductive Origin where
  | send (h : Held)
  | router
  | lineUnit
  deriving DecidableEq, Repr

structure Queued where
  msg : Message
  origin : Origin
  deriving DecidableEq, Repr

inductive SenderState where
  | idle | offering | quitting
  deriving DecidableEq, Repr

inductive ReceiverState where
  | idle | receiving | halting
  deriving DecidableEq, Repr

/-- The message in transmission and the index of the byte offered (07 R125). -/
structure InFlight where
  item : Queued
  index : Nat
  deriving DecidableEq, Repr

structure Channel where
  sender : SenderState := .idle
  inFlight : Option InFlight := none
  offer : Bool := false
  last : Bool := false
  quit : Bool := false
  takeTimer : Option Nat := none
  quitTimer : Option Nat := none
  queue : List Queued := []
  receiver : ReceiverState := .idle
  partialMsg : List Octet := []
  take : Bool := false
  halt : Bool := false
  stallTimer : Option Nat := none
  haltTimer : Option Nat := none
  holding : Option Message := none
  /-- Own: the sender's work of this boundary is still to be done. -/
  senderDue : Bool := false
  /-- Own: the receiver's work of this boundary is still to be done. -/
  receiverDue : Bool := false
  deriving DecidableEq, Repr

/-! ### The message router (08) -/

structure ProbeEntry where
  held : Held
  target : Octet
  serial : Octet
  blocks : Nat
  /-- Own: the count of this block boundary is still to be lowered. -/
  tickDue : Bool := false
  deriving DecidableEq, Repr

inductive WaitFor where
  | queue (p : Port)
  | pool
  deriving DecidableEq, Repr

structure HoldingWait where
  on : WaitFor
  waited : Nat
  deriving DecidableEq, Repr

structure Router where
  node : Octet := 0
  table : Vector (Option Port) 8 := Vector.replicate 8 none
  listens : List Held := []
  probes : List ProbeEntry := []
  waits : Vector (Option HoldingWait) 4 := Vector.replicate 4 none
  /-- Own: the retry of this boundary is still to be made. -/
  retryDue : Vector Bool 4 := Vector.replicate 4 false
  deriving DecidableEq, Repr

/-! ### Host supervision (09) -/

inductive Mode where
  | off | window | challenge
  deriving DecidableEq, Repr

inductive TripAction where
  | fallback | fallbackAndPulse
  deriving DecidableEq, Repr

inductive Selector where
  | a | b
  deriving DecidableEq, Repr

inductive Phase where
  | first | second
  deriving DecidableEq, Repr

structure FallbackEntry where
  target : SlotIndex
  source : Source
  deriving DecidableEq, Repr

structure Supervision where
  mode : Mode := .off
  /-- W, in blocks. -/
  period : Nat := 2
  threshold : Nat := 15
  action : TripAction := .fallback
  pulseLength : Nat := 1
  selector : Selector := .a
  errorCount : Nat := 0
  position : Nat := 0
  phase : Phase := .first
  bad : Bool := false
  /-- The challenge value Q, which a shift register advances (09 R168). -/
  q : BitVec 4 := 1
  index : Nat := 3
  table : List FallbackEntry := []
  fallback : Bool := false
  tripped : Bool := false
  /-- RESET_OUT: blocks remaining while asserted (09 R170). -/
  resetOut : Option Nat := none
  wordDue : Bool := false
  /-- Own: the position's advance of this boundary is still to be made. -/
  advanceDue : Bool := false
  /-- Own: the RESET_OUT count of this block boundary is still to be lowered. -/
  resetTick : Bool := false
  deriving DecidableEq, Repr

/-! ### The whole part -/

/-- The bus cycles of the step in progress; `cut`: a reset drops the accesses after them (log 5, log 6). -/
structure Bus where
  cycles : List BusCycle := []
  cut : Bool := false
  deriving DecidableEq, Repr

/-- The memory of the local bus: bytes by address, addresses strictly rising, none equal to `Config.unlistedByte`. -/
abbrev Memory := List Host.Cell

structure State where
  pending : List Instr := []
  mem : Memory := []
  bus : Bus := {}
  regs : Registers := {}
  walker : Walker := {}
  retire : List Request := []
  timer : FrameTimer := {}
  lines : Vector LineUnit 4 := Vector.replicate 4 {}
  channels : Vector Channel 4 := Vector.replicate 4 {}
  switch : Switch := {}
  activity : Activity := {}
  groups : Vector ScanGroup 8 := Vector.replicate 8 {}
  streams : Vector Stream 16 := Vector.replicate 16 {}
  router : Router := {}
  supervision : Supervision := {}
  deriving DecidableEq, Repr

/-- The machine right after a power-on reset, PORESET released: every block at the reset values of its chapter
(10 R183), nothing in the queue, no memory listed. -/
def State.reset : State := {}

/-- What stops the machine. No command raises one: every mishap of the spec is an effect (log 29). -/
inductive Fault where
  /-- An access outside the exchange area. Raised by no command: an offset has 20 bits, so every access lands
  inside the area (01 R1). Safe: a stop can only make true claims unprovable. -/
  | outsideArea
  deriving DecidableEq, Repr

/-- Why a command has no meaning. No command answers one (log 29). -/
inductive Refusal where
  /-- Raised by an arm of `exec` whose command has no meaning yet; there is none. Safe. -/
  | notModelled (mnemonic : String)
  deriving DecidableEq, Repr

end Sys2Proof.Machine
end

