-- ==== Sys2Proof/Machine/Ops.lean ====
section
/-! DEFINITION. The shared operations: tables, bytes of words, memory, the memory port, attention, the retire path's queue. -/

namespace Sys2Proof.Machine

/-! ### Tables of fixed length -/

/-- The table with entry `i` changed by `f`. -/
def updAt {α : Type} {n : Nat} (v : Vector α n) (i : Fin n) (f : α → α) : Vector α n := v.set i (f v[i])

/-- Every entry changed by `f`. -/
def mapAll {α β : Type} {n : Nat} (f : α → β) (v : Vector α n) : Vector β n :=
  ⟨(v.toList.map f).toArray, by simp⟩

/-- The table whose entry `i` is `f i`. -/
def tabulate {α : Type} (n : Nat) (f : Fin n → α) : Vector α n :=
  ⟨((List.finRange n).map f).toArray, by simp⟩

/-- The ports in order. -/
def allPorts : List Port := [0, 1, 2, 3]

/-- The streams in order. -/
def allStreams : List StreamNo := [0, 1, 2, 3, 4, 5, 6, 7, 8, 9, 10, 11, 12, 13, 14, 15]

/-! ### Bytes of words (00, Numbers and ranges: little-endian) -/

/-- Byte `i` of a word, byte 0 the least significant. -/
def wordByte (w : Word) (i : Nat) : Octet := (w >>> (8 * i)).setWidth 8

/-- The word of four bytes, the first the least significant. -/
def wordOf (b0 b1 b2 b3 : Octet) : Word := b3 ++ b2 ++ b1 ++ b0

/-- A number as an octet. -/
def octet (n : Nat) : Octet := BitVec.ofNat 8 n

/-- The word of up to four octets, the places not reached holding `fill`. -/
def wordOfList (fill : Octet) (l : List Octet) : Word :=
  wordOf (l.getD 0 fill) (l.getD 1 fill) (l.getD 2 fill) (l.getD 3 fill)

/-- The four octets of a word in the order of their places. -/
def octetsOf (w : Word) : List Octet := [wordByte w 0, wordByte w 1, wordByte w 2, wordByte w 3]

/-! ### Memory: one list of bytes in canonical form -/

/-- The byte at an address. -/
def Memory.read : Memory → Nat → Octet
  | [], _ => Config.unlistedByte
  | (a, b) :: m, x => if x < a then Config.unlistedByte else if x = a then b else Memory.read m x

/-- The memory with one byte written; the canonical form is kept. -/
def Memory.write : Memory → Nat → Octet → Memory
  | [], x, v => if v = Config.unlistedByte then [] else [(x, v)]
  | (a, b) :: m, x, v =>
    if x < a then (if v = Config.unlistedByte then (a, b) :: m else (x, v) :: (a, b) :: m)
    else if x = a then (if v = Config.unlistedByte then m else (x, v) :: m)
    else (a, b) :: Memory.write m x v

/-- Addresses strictly rise from `lo` on, and no byte equals what an unlisted address reads as. -/
def Memory.wfFrom : Nat → Memory → Bool
  | _, [] => true
  | lo, (a, b) :: m => decide (lo ≤ a) && b != Config.unlistedByte && Memory.wfFrom (a + 1) m

/-- The canonical form of memory. -/
def Memory.wf (m : Memory) : Bool := Memory.wfFrom 0 m

/-- The bytes stored one after another. -/
def Memory.stores (m : Memory) (l : List (BusAddress × Octet)) : Memory :=
  l.foldl (fun m p => m.write p.1.toNat p.2) m

/-- The little-endian word at an address. -/
def Memory.readWord (m : Memory) (a : Nat) : Word :=
  wordOf (m.read a) (m.read (a + 1)) (m.read (a + 2)) (m.read (a + 3))

/-- The memory with a little-endian word written. -/
def Memory.writeWord (m : Memory) (a : Nat) (w : Word) : Memory :=
  (((m.write a (wordByte w 0)).write (a + 1) (wordByte w 1)).write (a + 2) (wordByte w 2)).write (a + 3) (wordByte w 3)

/-! ### Changes of one block of the state -/

def State.onRegs (s : State) (f : Registers → Registers) : State := { s with regs := f s.regs }
def State.onWalker (s : State) (f : Walker → Walker) : State := { s with walker := f s.walker }
def State.onTimer (s : State) (f : FrameTimer → FrameTimer) : State := { s with timer := f s.timer }
def State.onLine (s : State) (p : Port) (f : LineUnit → LineUnit) : State := { s with lines := updAt s.lines p f }
def State.onChannel (s : State) (p : Port) (f : Channel → Channel) : State := { s with channels := updAt s.channels p f }
def State.onSwitch (s : State) (f : Switch → Switch) : State := { s with switch := f s.switch }
def State.onActivity (s : State) (f : Activity → Activity) : State := { s with activity := f s.activity }
def State.onGroup (s : State) (g : GroupNo) (f : ScanGroup → ScanGroup) : State := { s with groups := updAt s.groups g f }
def State.onStream (s : State) (n : StreamNo) (f : Stream → Stream) : State := { s with streams := updAt s.streams n f }
def State.onRouter (s : State) (f : Router → Router) : State := { s with router := f s.router }
def State.onSupervision (s : State) (f : Supervision → Supervision) : State := { s with supervision := f s.supervision }
def State.addRequest (s : State) (r : Request) : State := { s with retire := s.retire ++ [r] }

/-! ### The memory port (01 R1) -/

/-- The bus address of an offset: AREA_BASE as it stands, then the offset (10 R180). -/
def State.busAddress (s : State) (off : Offset) : Nat := (s.regs.areaBase ++ off).toNat

/-- One access meets the next bus cycle: the host's stores before it land, and the answer says whether the access is good.
After the last cycle of a cut no access is made (log 5, log 6). -/
def State.busCycle (s : State) : Bool × State :=
  match s.bus.cycles with
  | [] => (!s.bus.cut, s)
  | c :: cs => (!c.error, { s with mem := s.mem.stores c.host, bus := { s.bus with cycles := cs } })

/-- A word read; none is a bus error. -/
def State.readWord (s : State) (off : Offset) : Option Word × State :=
  let r := s.busCycle
  (if r.1 then some (r.2.mem.readWord (r.2.busAddress off)) else none, r.2)

/-- A word write; false is a bus error, and then memory is left as it was. -/
def State.writeWord (s : State) (off : Offset) (w : Word) : Bool × State :=
  let r := s.busCycle
  (r.1, if r.1 then { r.2 with mem := r.2.mem.writeWord (r.2.busAddress off) w } else r.2)

/-- The write of a record's state byte, the one byte write of the part (01 R1, R3). -/
def State.writeByte (s : State) (off : Offset) (b : Octet) : Bool × State :=
  let r := s.busCycle
  (r.1, if r.1 then { r.2 with mem := r.2.mem.write (r.2.busAddress off) b } else r.2)

/-- An exchange: the word is read and written back changed, with no access between (06 R108; log 23).
The answer is the word read, or none on a bus error. -/
def State.exchange (s : State) (off : Offset) (f : Word → Word) : Option Word × State :=
  let r := s.busCycle
  let w := r.2.mem.readWord (r.2.busAddress off)
  if r.1 then (some w, { r.2 with mem := r.2.mem.writeWord (r.2.busAddress off) (f w) }) else (none, r.2)

/-- One write of a sequence of writes. -/
inductive Write where
  | word (off : Offset) (w : Word)
  | byte (off : Offset) (b : Octet)
  deriving DecidableEq, Repr

/-- One write; false is a bus error. -/
def State.write (s : State) : Write → Bool × State
  | .word off w => s.writeWord off w
  | .byte off b => s.writeByte off b

/-- Writes in order, ended by the first that fails; the answer is how many were made. -/
def State.writes (s : State) : List Write → Nat × State
  | [] => (0, s)
  | w :: ws =>
    let r := s.write w
    if r.1 then
      let t := r.2.writes ws
      (t.1 + 1, t.2)
    else (0, r.2)

/-- Words read at consecutive offsets; none on the first bus error. -/
def State.readWords (s : State) : Nat → Offset → Option (List Word) × State
  | 0, _ => (some [], s)
  | k + 1, off =>
    match s.readWord off with
    | (none, s) => (none, s)
    | (some w, s) =>
      match s.readWords k (off + 4) with
      | (none, s) => (none, s)
      | (some ws, s) => (some (w :: ws), s)

/-! ### Attention (10 R181) -/

/-- The bit of a cause (10, cause table). -/
def Cause.bit : Cause → BitVec 7
  | .retire => 0b0000001
  | .chain => 0b0000010
  | .port => 0b0000100
  | .activity => 0b0001000
  | .stream => 0b0010000
  | .supervision => 0b0100000
  | .bus => 0b1000000

/-- A block raises a cause: it becomes pending, or stays so. -/
def State.raise (s : State) (c : Cause) : State :=
  s.onRegs fun r => { r with attnPending := r.attnPending ||| c.bit }

/-- The cause is raised if the condition holds. -/
def State.raiseIf (s : State) (b : Bool) (c : Cause) : State := if b then s.raise c else s

/-! ### Requests to the retire path (01 R15) -/

/-- A block other than the walker's take asks for a retirement. -/
def State.requestRetire (s : State) (h : Held) (outcome : OutcomeCode) (detail : Octet)
    (results : List (Nat × Word) := []) : State :=
  s.addRequest (.retire h outcome detail results false)

/-! ### Stream references (06 R123) -/

/-- A reference gained is counted at its stream. -/
def State.refGain (s : State) (n : StreamNo) : State := s.onStream n fun t => { t with refs := t.refs + 1 }

/-- A reference lost is counted at its stream. -/
def State.refLoss (s : State) (n : StreamNo) : State := s.onStream n fun t => { t with refs := t.refs - 1 }

/-- The gain or loss of the stream that a route source names, if it names one. -/
def Source.stream? : Source → Option StreamNo
  | .stream n => .some n
  | .none | .slot _ | .scan _ | .const _ => Option.none

/-- The stream that a scan member names, if it names one. -/
def MemberSource.stream? : MemberSource → Option StreamNo
  | .stream n => some n
  | .slot _ => none

/-- The stream is open with direction FEED, whatever its state (03 R56, 06 6.1). -/
def State.isOpenFeed (s : State) (n : StreamNo) : Bool :=
  match s.streams[n].desc with
  | some d => d.dir == .feed
  | none => false

/-! ### Inbound octets -/

/-- The port of a traffic slot index (00, Ports and slots). -/
def SlotIndex.port (k : SlotIndex) : Port := ⟨k.val / 30, by have := k.isLt; omega⟩

/-- The slot number of a traffic slot index, 2 to 31. -/
def SlotIndex.slot (k : SlotIndex) : Fin 32 := ⟨k.val % 30 + 2, by have := Nat.mod_lt k.val (show 0 < 30 by decide); omega⟩

/-- The traffic slot index of a port and a slot, where they are in range. -/
def slotIndex? (port slot : Nat) : Option SlotIndex :=
  if h : port < 4 ∧ 2 ≤ slot ∧ slot < 32 then some ⟨30 * port + (slot - 2), by omega⟩ else none

/-- The octet presented in an inbound traffic slot, as its receiver presented it (02 R33). -/
def State.presentedOctet (s : State) (k : SlotIndex) : Octet := s.lines[SlotIndex.port k].rx.presented[SlotIndex.slot k]

/-- The inbound traffic octet as every consumer sees it: as received while the port is LINKED at the boundary,
else the idle octet (02 R44). -/
def State.inboundOctet (s : State) (k : SlotIndex) : Octet :=
  if s.lines[SlotIndex.port k].seen then s.presentedOctet k else idleOctet

/-! ### The meaning of a command -/

/-- The wrapper of every command but the two of PORESET: while PORESET is asserted nothing else has an effect
(10 R177, R183; log 27). -/
def whileReleased (s : State) (f : State → State) : Host.Outcome State Fault Refusal :=
  if s.regs.poreset then .next s else .next (f s)

/-- The state with other bus cycles before it. -/
def State.setBus (s : State) (b : Bus) : State := { s with bus := b }

/-- A command that accesses memory: the bus cycles are there for its accesses and are gone after it (log 5). -/
def State.withBus (s : State) (cycles : List BusCycle) (f : State → State) : State :=
  (f (s.setBus { cycles := cycles, cut := false })).setBus {}

/-- `whileReleased` with bus cycles. -/
def whileReleasedBus (s : State) (cycles : List BusCycle) (f : State → State) : Host.Outcome State Fault Refusal :=
  whileReleased s fun s => s.withBus cycles f

end Sys2Proof.Machine
end

