-- ==== Sys2Proof/Machine/Operands.lean ====
section
/-! DEFINITION. What the work records say: kinds, fields, edits, members, stream and fallback settings (01 to 09, body tables). -/

namespace Sys2Proof.Machine

/-! ### Outcomes and kinds (01 1.2) -/

/-- The code of an outcome (01, Outcome codes). -/
def OutcomeCode.code : OutcomeCode → Octet
  | .done => 0x00
  | .badKind => 0x01
  | .badLength => 0x02
  | .badField => 0x03
  | .badOffset => 0x04
  | .badSlot => 0x05
  | .duplicate => 0x06
  | .noStream => 0x07
  | .inUse => 0x08
  | .occupied => 0x09
  | .isProtected => 0x0A
  | .state => 0x0B
  | .linkDown => 0x0C
  | .noRoute => 0x0D
  | .hopsExhausted => 0x0E
  | .takeTimeout => 0x0F
  | .peerHalt => 0x10
  | .noListener => 0x11
  | .congested => 0x12
  | .noReply => 0x13
  | .recalled => 0x14
  | .busError => 0x15

/-- The state bytes of a record (01 1.2). -/
def statePosted : Octet := 0x01
def stateHeld : Octet := 0x03
def stateDone : Octet := 0x04
def stateFailed : Octet := 0x05

/-- The state byte that a retirement writes (01 R16). -/
def OutcomeCode.stateByte (o : OutcomeCode) : Octet := if o = .done then stateDone else stateFailed

/-- The record kinds (01, Record kinds). -/
inductive Kind where
  | nop | portSetup | setNode | editMap | dropTag | queryMap | setActivity | setScan | scanControl | openStream
  | closeStream | send | listen | probe | recallPool | supervise | pulse | setFallback | fallbackControl
  deriving DecidableEq, Repr

/-- The kind of a kind code, if it is in the table. -/
def kindOf (code : Octet) : Option Kind :=
  if code = 0x01 then some .nop
  else if code = 0x02 then some .portSetup
  else if code = 0x03 then some .setNode
  else if code = 0x10 then some .editMap
  else if code = 0x11 then some .dropTag
  else if code = 0x12 then some .queryMap
  else if code = 0x20 then some .setActivity
  else if code = 0x21 then some .setScan
  else if code = 0x22 then some .scanControl
  else if code = 0x30 then some .openStream
  else if code = 0x31 then some .closeStream
  else if code = 0x40 then some .send
  else if code = 0x41 then some .listen
  else if code = 0x42 then some .probe
  else if code = 0x43 then some .recallPool
  else if code = 0x50 then some .supervise
  else if code = 0x51 then some .pulse
  else if code = 0x52 then some .setFallback
  else if code = 0x53 then some .fallbackControl
  else none

/-- The minimum body of a kind, in words (01, Record kinds). -/
def Kind.minBody : Kind → Nat
  | .nop => 0
  | .portSetup => 1
  | .setNode => 3
  | .editMap => 3
  | .dropTag => 1
  | .queryMap => 1
  | .setActivity => 5
  | .setScan => 1
  | .scanControl => 1
  | .openStream => 5
  | .closeStream => 1
  | .send => 1
  | .listen => 16
  | .probe => 1
  | .recallPool => 0
  | .supervise => 2
  | .pulse => 1
  | .setFallback => 1
  | .fallbackControl => 1

/-- The common checks on header word 0 of a record at an offset (01 R9): the failing outcome, or the kind. -/
def commonChecks (off : Offset) (header : Word) : Except OutcomeCode Kind :=
  let len := (wordByte header 3).toNat
  if 60 < len then .error .badField
  else if 0x100000 < off.toNat + 16 + 4 * len then .error .badOffset
  else match kindOf (wordByte header 1) with
    | none => .error .badKind
    | some k => if len < k.minBody then .error .badLength else .ok k

/-- NOTIFY, HALT_ON_FAIL and the offset of a record (01, flags byte). -/
def heldOf (off : Offset) (header : Word) : Held :=
  { offset := off, notify := (wordByte header 2).getLsbD 0, haltOnFail := (wordByte header 2).getLsbD 1 }

/-- The offset of a good candidate link or chain start (01 R7). -/
def goodOffset? (link : Word) : Option Offset :=
  if link.toNat % 4 = 0 ∧ 0x40 ≤ link.toNat ∧ link.toNat ≤ 0xFFFF0 then some (link.setWidth 20) else none

/-- An offset that names `size` bytes of memory above the header (00, Offsets in the exchange area). -/
def areaOffset? (w : Word) (size : Nat) : Option Offset :=
  if w.toNat % 4 = 0 ∧ 0x40 ≤ w.toNat ∧ w.toNat + size ≤ 0x100000 then some (w.setWidth 20) else none

/-! ### Fields of a body -/

/-- Body word `i`. -/
def WorkRecord.word (r : WorkRecord) (i : Nat) : Word := r.body.getD i 0

/-- Byte `j` of body word `i`. -/
def WorkRecord.byte (r : WorkRecord) (i j : Nat) : Octet := wordByte (r.word i) j

/-- The kind of the record is `k`. -/
def WorkRecord.isKind (r : WorkRecord) (k : Kind) : Bool := kindOf r.kind == some k

/-- `n` bytes of the body from byte 4 of it on (08, payload of a SEND). -/
def WorkRecord.payload (r : WorkRecord) (n : Nat) : List Octet :=
  (List.range n).map fun k => r.byte (1 + k / 4) (k % 4)

/-! ### Edits (03 3.4) -/

/-- The edits of a list of `count`, as word pairs (03 R55). -/
def WorkRecord.edits (r : WorkRecord) (count : Nat) : List (Word × Word) :=
  (List.range count).map fun k => (r.word (1 + 2 * k), r.word (2 + 2 * k))

/-- A judged edit: its target and what it writes there. -/
structure Edit where
  target : SlotIndex
  put : Bool
  cls : RouteClass
  override : Bool
  source : Source
  tag : Octet
  deriving DecidableEq, Repr

/-- Checks 1 to 5 of R56 on the two words of an edit. -/
def parseEdit (e : Word × Word) : Except OutcomeCode Edit :=
  match slotIndex? (wordByte e.1 0).toNat (wordByte e.1 1).toNat with
  | none => .error .badSlot
  | some target =>
    let action := (wordByte e.1 2).toNat
    let cls := if (wordByte e.1 3).getLsbD 0 then RouteClass.urgent else .normal
    let override := (wordByte e.1 3).getLsbD 1
    let tag := wordByte e.2 3
    let a := (wordByte e.2 1).toNat
    let b := (wordByte e.2 2).toNat
    if action = 2 then .ok { target, put := false, cls, override, source := .none, tag }
    else if action ≠ 1 then .error .badField
    else
      let put (source : Source) : Except OutcomeCode Edit := .ok { target, put := true, cls, override, source, tag }
      match (wordByte e.2 0).toNat with
      | 0 => put .none
      | 1 => match slotIndex? a b with
        | none => .error .badSlot
        | some k => put (.slot k)
      | 2 => if h : a < 16 then put (.stream ⟨a, h⟩) else .error .badField
      | 3 => if h : a < 8 then put (.scan ⟨a, h⟩) else .error .badField
      | 4 => put (.const (wordByte e.2 1))
      | _ => .error .badField

/-! ### Scan members (05 5.3) -/

/-- Checks 4 to 6 of R96 on the word of a member. -/
def parseMember (w : Word) : Except OutcomeCode Member :=
  let a := (wordByte w 1).toNat
  let dwell := (wordByte w 3).toNat
  match (wordByte w 0).toNat with
  | 1 => match slotIndex? a (wordByte w 2).toNat with
    | none => .error .badSlot
    | some k => .ok { source := .slot k, dwell }
  | 2 => if h : a < 16 then .ok { source := .stream ⟨a, h⟩, dwell } else .error .badField
  | _ => .error .badField

/-! ### Fallback entries (09 9.5) -/

/-- Checks 4 to 7 of R171 on the word of an entry. -/
def parseFallback (w : Word) : Except OutcomeCode FallbackEntry :=
  let a := (wordByte w 2).toNat
  if h : (wordByte w 0).toNat < 120 then
    let put (source : Source) : Except OutcomeCode FallbackEntry := .ok { target := ⟨(wordByte w 0).toNat, h⟩, source }
    match (wordByte w 1).toNat with
    | 0 => put .none
    | 1 => match slotIndex? a (wordByte w 3).toNat with
      | none => .error .badSlot
      | some k => put (.slot k)
    | 3 => if h : a < 8 then put (.scan ⟨a, h⟩) else .error .badField
    | 4 => put (.const (wordByte w 2))
    | _ => .error .badField
  else .error .badSlot

/-! ### Direction entries (08 8.2) -/

/-- A direction entry byte: a port, NONE, or an error (08 R145). -/
def parseDirection (b : Octet) : Except Unit (Option Port) :=
  if h : b.toNat < 4 then .ok (some ⟨b.toNat, h⟩) else if b = 0xFF then .ok none else .error ()

/-- Direction entry byte `i` of a SET_NODE. -/
def WorkRecord.directionByte (r : WorkRecord) (i : Nat) : Octet := r.byte (1 + i / 4) (i % 4)

/-! ### Checks at take of the records that an owner may keep (03 R55; 08 R154, R156) -/

/-- The checks of R55 on an EDIT_MAP: the outcome of the first that fails. -/
def editMapFault (r : WorkRecord) : Option OutcomeCode :=
  let count := (r.byte 0 0).toNat
  if count = 0 ∨ 24 < count then some .badField
  else if r.body.length < 1 + 2 * count then some .badLength
  else none

/-- The checks of R154 on a SEND. -/
def sendFault (r : WorkRecord) : Option OutcomeCode :=
  let dest := (r.byte 0 0).toNat
  let hops := (r.byte 0 1).toNat
  let n := (r.byte 0 3).toNat
  if dest = 0 ∨ dest = 255 then some .badField
  else if hops = 0 ∨ 15 < hops then some .badField
  else if r.byte 0 2 ≠ 2 then some .badField
  else if 48 < n then some .badField
  else if r.body.length < 1 + (n + 3) / 4 then some .badLength
  else none

/-- The checks of R156 on a PROBE. -/
def probeFault (r : WorkRecord) : Option OutcomeCode :=
  if r.byte 0 0 = 0 ∨ r.byte 0 0 = 255 then some .badField
  else if r.byte 0 2 = 0 then some .badField
  else none

/-! ### CONTROL words (10 R178) -/

/-- The reset field of a CONTROL word holds the soft reset code 0x3C (10 R178, R183). -/
def isResetCode (value : Word) : Bool := value.extractLsb' 8 8 == (0x3C : Octet)

end Sys2Proof.Machine
end

