-- ==== Sys2Proof/Machine/Flags.lean ====
section
/-! DEFINITION. Codes, flags and words that the part shows: the line-state octet, the status words, the registers, ATTN. -/

namespace Sys2Proof.Machine

/-- A flag as a bit of an octet. -/
def flagBit (b : Bool) (i : Nat) : Octet := if b then octet (2 ^ i) else 0

/-! ### The line-state octet (02 2.2) -/

/-- The line code that a line state sends, in bits 7 to 5 (02 R30). -/
def LineState.lineCode : LineState → BitVec 3
  | .off => 0
  | .quiet => 0
  | .awake => 3
  | .ready => 5
  | .linked => 5
  | .lost => 0

/-- The peer codes (02 R30). -/
inductive PeerCode where
  | quiet | wake | ready
  deriving DecidableEq, Repr

/-- The peer code read from a line-state octet: 3 is WAKE, 5 is READY, every other value QUIET (02 R30). -/
def peerCode (slot1 : Octet) : PeerCode :=
  if slot1.extractLsb' 5 3 = (3 : BitVec 3) then .wake
  else if slot1.extractLsb' 5 3 = (5 : BitVec 3) then .ready
  else .quiet

/-- The line state runs the control channel and sends route outputs: READY or LINKED (02 R44, 07 R125). -/
def LineState.runs : LineState → Bool
  | .ready | .linked => true
  | .off | .quiet | .awake | .lost => false

/-- The five marks of a channel as bits 4 to 0: OFFER, LAST, QUIT, TAKE, HALT (02, line-state octet). -/
def Channel.marks (c : Channel) : BitVec 5 :=
  BitVec.ofBool c.offer ++ BitVec.ofBool c.last ++ BitVec.ofBool c.quit ++ BitVec.ofBool c.take ++ BitVec.ofBool c.halt

/-! ### Messages as bytes (07 7.1) -/

/-- The kind nibble of a message. -/
def MessageKind.nibble : MessageKind → BitVec 4
  | .identify => 1
  | .data => 2
  | .probe => 3
  | .probeReply => 4
  | .returned => 5

/-- The kind of a kind nibble, 1 to 5. -/
def messageKind? (n : BitVec 4) : Option MessageKind :=
  if n = 1 then some .identify
  else if n = 2 then some .data
  else if n = 3 then some .probe
  else if n = 4 then some .probeReply
  else if n = 5 then some .returned
  else none

/-- The 8-bit sum of bytes. -/
def byteSum (l : List Octet) : Octet := l.foldl (· + ·) 0

/-- Header and payload of a message. -/
def Message.body (m : Message) : List Octet :=
  [m.dest, m.source, m.hop ++ m.kind.nibble, octet m.payload.length] ++ m.payload

/-- The bytes of a message, the last the check byte that makes their sum zero. -/
def Message.bytes (m : Message) : List Octet := m.body ++ [-(byteSum m.body)]

/-- The number of bytes of a message, 5 + n. -/
def Message.size (m : Message) : Nat := 5 + m.payload.length

/-- The message of its bytes, as a receiver has checked them (07 R136, R137). -/
def messageOf (l : List Octet) : Option Message :=
  match messageKind? ((l.getD 2 0).setWidth 4) with
  | none => none
  | some kind => some {
      dest := l.getD 0 0, source := l.getD 1 0, hop := (l.getD 2 0).extractLsb' 4 4, kind,
      payload := (l.drop 4).take (l.getD 3 0).toNat }

/-! ### The frame that a port sends (02 R29, R30, R44) -/

/-- The octet that the channel supplies for slot 0: the byte offered, or the idle octet (07 7.3). -/
def Channel.slot0 (c : Channel) : Octet :=
  match c.sender, c.inFlight with
  | .offering, some f => f.item.msg.bytes.getD f.index idleOctet
  | _, _ => idleOctet

/-- The frame that port `p` sends in the present frame, or none in OFF. -/
def State.sentFrame (s : State) (p : Port) : Option Frame :=
  let tx := s.lines[p].tx
  if tx.line = .off then none
  else
    let slot0 := if tx.line.runs then tx.slot0 else idleOctet
    let marks : BitVec 5 := if tx.line.runs then tx.marks else 0
    some (tabulate 32 fun i =>
      if i.val = 0 then slot0
      else if i.val = 1 then tx.line.lineCode ++ marks
      else if tx.line.runs then
        match slotIndex? p.val i.val with
        | some k => s.switch.out[k]
        | none => idleOctet
      else idleOctet)

/-- What PnTX carries: nothing while the frame goes round the loop (02 R43). -/
def State.pnTx (s : State) (p : Port) : Option Frame := if s.lines[p].tx.loop then none else s.sentFrame p

/-! ### The port status word (02 2.7) -/

/-- The line state code of the port status word. -/
def LineState.code : LineState → Octet
  | .off => 0
  | .quiet => 1
  | .awake => 2
  | .ready => 3
  | .linked => 4
  | .lost => 5

def SenderState.code : SenderState → Octet
  | .idle => 0
  | .offering => 1
  | .quitting => 2

def ReceiverState.code : ReceiverState → Octet
  | .idle => 0
  | .receiving => 1
  | .halting => 2

/-- The port status word of a port as it stands. -/
def State.portStatusWord (s : State) (p : Port) : Word :=
  wordOf (s.lines[p].line.code ||| flagBit s.lines[p].loop 7) s.lines[p].peer s.channels[p].sender.code
    s.channels[p].receiver.code

/-! ### The supervision word (09 9.7) -/

def Mode.code : Mode → Octet
  | .off => 0
  | .window => 1
  | .challenge => 2

def Phase.code : Phase → Octet
  | .first => 0
  | .second => 1

/-- The supervision word as it stands. -/
def Supervision.word (v : Supervision) : Word :=
  wordOf v.mode.code (v.phase.code ||| flagBit v.bad 7) (octet v.errorCount)
    (octet (v.q.toNat + 16 * (v.index % 4)))

/-! ### The activity image (04 4.4) -/

/-- Word `j` of the activity image: bit i is the flag of slot index 32 × j + i; bits past 119 are 0. -/
def Activity.imageWord (a : Activity) (j : Nat) : Word :=
  ((a.slots.toList.drop (32 * j)).take 32).zipIdx.foldl
    (fun w e => if e.1.active then w ||| (1 : Word) <<< e.2 else w) 0

/-- The number of ACTIVE slots (04 R86). -/
def Activity.activeCount (a : Activity) : Nat := (a.slots.toList.filter fun e => e.active).length

/-! ### The map image (03 3.6) -/

/-- The word of a route entry in the map image. -/
def RouteEntry.imageWord (e : RouteEntry) : Word :=
  let flags := flagBit (e.cls == .urgent) 6 ||| flagBit e.marked 7
  match e.source with
  | .none => wordOf flags 0 0 e.tag
  | .slot k => wordOf (1 ||| flags) (octet (SlotIndex.port k).val) (octet (SlotIndex.slot k).val) e.tag
  | .stream n => wordOf (2 ||| flags) (octet n.val) 0 e.tag
  | .scan g => wordOf (3 ||| flags) (octet g.val) 0 e.tag
  | .const v => wordOf (4 ||| flags) v 0 e.tag

/-! ### The status block of a stream (06 6.2) -/

/-- Owner byte values: PART 0, HOST 1, any other value read as HOST (06 6.2). -/
def ownerPart : Octet := 0
def ownerHost : Octet := 1

/-- The state byte of a status block. -/
def StreamStatus.code : StreamStatus → Octet
  | .opened => 1
  | .stalled => 2
  | .muted => 3
  | .fault => 5

/-- The state byte CLOSED. -/
def closedCode : Octet := 4

/-- The owner byte of a half in status word 0. -/
def ownerByte (w : Word) : Half → Octet
  | .a => wordByte w 0
  | .b => wordByte w 1

/-- Status word 0 with its state byte written. -/
def withStatus (code : Octet) (w : Word) : Word := wordOf (wordByte w 0) (wordByte w 1) code (wordByte w 3)

/-- Status word 0 with the owner byte of a half written. -/
def withOwner (h : Half) (owner : Octet) (w : Word) : Word :=
  match h with
  | .a => wordOf owner (wordByte w 1) (wordByte w 2) (wordByte w 3)
  | .b => wordOf (wordByte w 0) owner (wordByte w 2) (wordByte w 3)

/-- Status word 0 with the break flag written. -/
def withBreak (flag : Octet) (w : Word) : Word := wordOf (wordByte w 0) (wordByte w 1) (wordByte w 2) flag

/-- The code of the last half handed over: A 0, B 1, 0xFF for none. -/
def lastHandedCode : Option Half → Octet
  | some .a => 0
  | some .b => 1
  | none => 0xFF

/-- Status word 1: final fill, last half handed over, byte 7 written 0. -/
def statusWord1 (fill : Nat) (last : Option Half) : Word :=
  wordOf (octet (fill % 256)) (octet (fill / 256)) (lastHandedCode last) 0

/-! ### The register window (10) -/

def WalkerStatus.code : WalkerStatus → Nat
  | .stopped => 0
  | .idle => 1
  | .waiting => 2
  | .blocked => 3
  | .halted => 4

def HaltReason.code : HaltReason → Nat
  | .none => 0
  | .recordFailed => 1
  | .badLink => 2
  | .bus => 3

/-- ATTN is asserted exactly when some cause is both pending and enabled (10 R182). -/
def State.attn (s : State) : Bool := s.regs.attnPending &&& s.regs.attnEnable != 0

/-- RESET_OUT is asserted (09 R170). -/
def State.resetOut (s : State) : Bool := s.supervision.resetOut.isSome

/-- The STATE register (10 R179). -/
def State.stateRegister (s : State) : Word :=
  BitVec.ofNat 32 (s.walker.status.code + 16 * s.walker.haltReason.code + (if s.supervision.fallback then 256 else 0) +
    (if s.supervision.tripped then 512 else 0) + 4096 * s.supervision.mode.code.toNat)

/-- A register read: the word at register number `offset / 4` of the window, as the state stands (10 R177 to R182).
A read changes nothing, so it is a function of the state and no command. -/
def State.readRegister (s : State) (offset : BitVec 5) : Word :=
  match (offset.extractLsb' 2 3).toNat with
  | 0 => 0x52430001
  | 1 => if s.regs.run then 1 else 0
  | 2 => s.stateRegister
  | 3 => s.regs.areaBase ++ (0 : BitVec 20)
  | 4 => (s.regs.attnPending &&& s.regs.attnEnable).setWidth 32
  | 5 => s.regs.attnEnable.setWidth 32
  | _ => 0

end Sys2Proof.Machine
end

