-- ==== Sys2Proof/Machine/Activity.lean ====
section
/-! DEFINITION. The activity monitor: loud octets, classification, the activity image, SET_ACTIVITY (04). -/

namespace Sys2Proof.Machine

/-- The magnitude of an octet read as a signed sample, −128 taken as 128 (00, Octets). -/
def magnitude (o : Octet) : Nat := if o.toNat < 128 then o.toNat else 256 - o.toNat

/-- The octet presented in an inbound slot is loud (04 R78). -/
def State.loud (s : State) (k : SlotIndex) : Bool :=
  s.lines[SlotIndex.port k].seen && decide (s.activity.threshold ≤ magnitude (s.presentedOctet k))

/-- The octets presented at this boundary are judged and counted (04 R79). -/
def State.judgeOctets (s : State) : State :=
  s.onActivity fun a => { a with
    judgeDue := false
    counted := tabulate 120 fun k => s.loud k
    slots := tabulate 120 fun k =>
      if s.loud k then { a.slots[k] with loud := a.slots[k].loud + 1 } else a.slots[k] }

/-- LOUD_COUNT, once a boundary; at a block boundary the classification comes first (04 R79). -/
def State.judgeWork (s : State) : State :=
  if s.activity.judgeDue ∧ ¬ s.activity.classifyDue then s.judgeOctets else s

/-- The classification of one slot (04 R80). -/
def SlotActivity.classify (onset hang : Nat) (e : SlotActivity) : SlotActivity :=
  if onset ≤ e.loud then { e with active := true, hang := hang }
  else if e.active then
    if 0 < e.hang then { e with hang := e.hang - 1 } else { e with active := false, hang := 0 }
  else e

/-- Every slot classified, and the loud counts set to 0 (04 R79, R80). -/
def Activity.classified (a : Activity) : Vector SlotActivity 120 :=
  mapAll (fun e => { SlotActivity.classify a.onset a.hang e with loud := 0 }) a.slots

/-- The slots whose flag the classification changes (04 R80). -/
def Activity.changed (a : Activity) (k : SlotIndex) : Bool :=
  (SlotActivity.classify a.onset a.hang a.slots[k]).active != a.slots[k].active

/-- The slot indices in order. -/
def allSlots : List SlotIndex := List.finRange 120

/-- CLASSIFICATION: flags, image-write-due mark, attention (04 R80, R82, R85). -/
def State.classify (s : State) : State :=
  if s.activity.classifyDue then
    let a := s.activity
    let anyChange := allSlots.any fun k => a.changed k
    let watched := allSlots.any fun k => a.changed k && a.watch.getLsbD k.val
    let s := s.onActivity fun a => { a with
      slots := a.classified
      classifyDue := false
      imageDue := a.imageDue || anyChange
      raiseAfter := a.raiseAfter || (watched && s.walker.headerWritten) }
    s.raiseIf (watched && !s.walker.headerWritten) .activity
  else s

/-- The monitor's work at a block boundary, in the order of R79. -/
def State.activityBlock (s : State) : State := s.classify.judgeWork

/-! ### The activity image (04 R82 to R85) -/

/-- The image write begins: the mark is cleared, and the attention owed goes with this write. -/
def Activity.beginImage (a : Activity) : Activity :=
  { a with imageDue := false, imageNext := some 0, raiseNow := a.raiseAfter, raiseAfter := false }

/-- The image write ends, with or without a bus error. -/
def State.endImage (s : State) (failed : Bool) : State :=
  let owed := s.activity.raiseNow
  ((s.onActivity fun a => { a with imageNext := none, raiseNow := false }).raiseIf failed .bus).raiseIf owed .activity

/-- Up to `k` further words of the image write from word `j` on, each as the flags stand (04 R82). -/
def State.imageWords (s : State) : Nat → Nat → State
  | 0, _ => s
  | k + 1, j =>
    let r := s.writeWord (BitVec.ofNat 20 (0x20 + 4 * j)) (s.activity.imageWord j)
    if !r.1 then r.2.endImage true
    else if j = 3 then r.2.endImage false
    else (r.2.onActivity fun a => { a with imageNext := some (j + 1) }).imageWords k (j + 1)

/-- ACTIVITY_IMAGE_WRITE of up to `words` words (log 30). -/
def State.activityImageWrite (s : State) (words : Nat) : State :=
  if s.walker.headerWritten then
    match s.activity.imageNext with
    | some j => s.imageWords words j
    | none => if s.activity.imageDue then (s.onActivity Activity.beginImage).imageWords words 0 else s
  else s

/-! ### SET_ACTIVITY (04 R86, R87) -/

/-- The watch set of a record: words 1 to 4, bits 120 to 127 ignored. -/
def WorkRecord.watchSet (r : WorkRecord) : BitVec 120 :=
  (r.word 4 ++ r.word 3 ++ r.word 2 ++ r.word 1).setWidth 120

/-- SET_ACTIVITY at take. -/
def State.setActivity (s : State) (r : WorkRecord) : OutcomeCode × Octet × State :=
  let t := (r.byte 0 0).toNat
  let o := (r.byte 0 1).toNat
  if t < 2 ∨ 127 < t then (.badField, 1, s)
  else if o < 1 ∨ 64 < o then (.badField, 2, s)
  else
    (.done, octet s.activity.activeCount,
      s.onActivity fun a => { a with threshold := t, onset := o, hang := (r.byte 0 2).toNat, watch := r.watchSet })

end Sys2Proof.Machine
end

