-- ==== Sys2Proof/Machine/Router.lean ====
section
/-! DEFINITION. The message router: routing decision, claims, delivery, replies, RETURNED messages, holding waits (08),
and what a channel reports of a message's end (07 R134). -/

namespace Sys2Proof.Machine

/-! ### The routing decision (08 8.3) -/

/-- The highest bit set in an octet that is not 0. -/
def highestBit (x : Octet) : Fin 8 :=
  if x.getLsbD 7 then 7 else if x.getLsbD 6 then 6 else if x.getLsbD 5 then 5 else if x.getLsbD 4 then 4
  else if x.getLsbD 3 then 3 else if x.getLsbD 2 then 2 else if x.getLsbD 1 then 1 else 0

inductive Route where
  | atHome
  | noRoute
  | linkDown
  | out (p : Port)
  deriving DecidableEq, Repr

/-- The decision of R147 up to the port; hop count and queue are looked at by its callers. -/
def State.route (s : State) (dest : Octet) : Route :=
  if dest = s.router.node then .atHome
  else match s.router.table[highestBit (dest ^^^ s.router.node)] with
    | none => .noRoute
    | some p => if s.lines[p].line = .linked then .out p else .linkDown

/-! ### Claims (07 R128) -/

/-- The outbound queue of a port holds fewer than four messages. -/
def State.queueFree (s : State) (p : Port) : Bool := decide (s.channels[p].queue.length < 4)

/-- A claim is taken in: the port is LINKED and its queue has room (07 R128). -/
def State.queueRoom (s : State) (p : Port) : Bool := s.lines[p].line == .linked && s.queueFree p

/-- A message joins the tail of the outbound queue; the caller has asked for room. -/
def State.enqueue (s : State) (p : Port) (q : Queued) : State :=
  s.onChannel p fun c => { c with queue := c.queue ++ [q] }

/-! ### Local delivery (08 8.5) -/

/-- The body results of a delivery (08 8.5, LISTEN table). -/
def deliveryResults (m : Message) : List (Nat × Word) :=
  (0, wordOf m.source (m.kind.nibble.setWidth 8) (octet m.payload.length) (m.hop.setWidth 8)) ::
    (List.range ((m.payload.length + 3) / 4)).map fun j => (1 + j, wordOfList 0 (m.payload.drop (4 * j)))

/-- The message fills the oldest LISTEN, which is retired DONE; none while the pool is empty (08 R152). -/
def State.deliver (s : State) (m : Message) (detail : Octet) : Option State :=
  match s.router.listens with
  | [] => none
  | l :: ls => some ((s.onRouter fun r => { r with listens := ls }).requestRetire l .done detail (deliveryResults m))

/-- The PROBE entry is one that a reply answers (08 R158). -/
def ProbeEntry.answeredBy (e : ProbeEntry) (m : Message) : Bool :=
  e.target == m.source && m.payload.head? == some e.serial

/-- A local PROBE_REPLY retires the oldest matching PROBE, or is discarded (08 R158). -/
def State.matchReply (s : State) (m : Message) : State :=
  match s.router.probes.find? fun e => e.answeredBy m with
  | none => s
  | some e =>
    (s.onRouter fun r => { r with probes := r.probes.eraseP fun e => e.answeredBy m }).requestRetire e.held .done
      (octet (15 - m.hop.toNat))

/-! ### Messages that the router makes (08 8.8) -/

/-- A PROBE_REPLY or RETURNED is routed at once; it does not wait and is not lowered (08 R160). -/
def State.routeMade (s : State) (m : Message) : State :=
  match s.route m.dest with
  | .atHome =>
    match m.kind with
    | .returned | .data => (s.deliver m 0xFF).getD s
    | .probeReply => s.matchReply m
    | .probe | .identify => s
  | .out p => if s.queueRoom p then s.enqueue p { msg := m, origin := .router } else s
  | .noRoute | .linkDown => s

/-- The answer to a local PROBE (08 R157). -/
def State.probeReply (s : State) (m : Message) : Message :=
  { dest := m.source, source := s.router.node, hop := 15, kind := .probeReply,
    payload := [if m.payload.length = 1 then m.payload.getD 0 0 else 0] }

/-- The RETURNED for a dropped DATA message (08 R159). -/
def State.returnedFor (s : State) (m : Message) (reason : OutcomeCode) : Message :=
  { dest := m.source, source := s.router.node, hop := 15, kind := .returned,
    payload := [m.dest, reason.code, octet m.payload.length] ++ m.payload.take 8 }

/-- A message is dropped for a reason: a DATA brings a RETURNED, any other kind nothing (08 R149, R159). -/
def State.dropMessage (s : State) (m : Message) (reason : OutcomeCode) : State :=
  if m.kind = .data then s.routeMade (s.returnedFor m reason) else s

/-! ### Messages in an inbound holding (08 8.4) -/

/-- The routing decision for a message in the holding of port `p`: what it still waits for, if it waits (08 R147 to R149). -/
def State.routeInbound (s : State) (p : Port) (m : Message) : Option WaitFor × State :=
  match s.route m.dest with
  | .atHome =>
    match m.kind with
    | .data | .returned =>
      match s.deliver m (octet p.val) with
      | some t => (none, t)
      | none => (some .pool, s)
    | .probe => (none, s.routeMade (s.probeReply m))
    | .probeReply => (none, s.matchReply m)
    | .identify => (none, s)
  | .noRoute => (none, s.dropMessage m .noRoute)
  | .linkDown => (none, s.dropMessage m .linkDown)
  | .out q =>
    if m.hop.toNat ≤ 1 then (none, s.dropMessage m .hopsExhausted)
    else if s.queueRoom q then (none, s.enqueue q { msg := { m with hop := m.hop - 1 }, origin := .router })
    else (some (.queue q), s)

/-- The holding of port `p` empties, and its wait with it. -/
def State.emptyHolding (s : State) (p : Port) : State :=
  (s.onChannel p fun c => { c with holding := none }).onRouter fun r =>
    { r with waits := r.waits.set p none, retryDue := r.retryDue.set p false }

/-- The holding of port `p` waits, with `waited` frames waited. -/
def State.holdWait (s : State) (p : Port) (on : WaitFor) (waited : Nat) : State :=
  s.onRouter fun r => { r with waits := r.waits.set p (some { on, waited }), retryDue := r.retryDue.set p false }

/-- A completed message is handed to the router (08 R149). -/
def State.handToRouter (s : State) (p : Port) (m : Message) : State :=
  match s.routeInbound p m with
  | (none, t) => t.emptyHolding p
  | (some on, t) => t.holdWait p on 0

/-- HOLDING_RETRY at a boundary before the 64th: the decision afresh, and one more frame waited (08 R150). -/
def State.retryHolding (s : State) (p : Port) : State :=
  match s.router.waits[p], s.channels[p].holding with
  | some w, some m =>
    if s.router.retryDue[p] && decide (w.waited + 1 < 64) then
      match s.routeInbound p m with
      | (none, t) => t.emptyHolding p
      | (some on, t) => t.holdWait p on (w.waited + 1)
    else s
  | _, _ => s

/-- The reason of a message whose wait has run out (08 R150). -/
def WaitFor.reason : WaitFor → OutcomeCode
  | .queue _ => .congested
  | .pool => .noListener

/-- HOLDING_WAIT_EXPIRY: the retry of the 64th boundary, which drops the message if it finds no room (08 R150; log 14). -/
def State.expireHolding (s : State) (p : Port) : State :=
  match s.router.waits[p], s.channels[p].holding with
  | some w, some m =>
    if s.router.retryDue[p] && decide (64 ≤ w.waited + 1) then
      match s.routeInbound p m with
      | (none, t) => t.emptyHolding p
      | (some on, t) => (t.dropMessage m on.reason).emptyHolding p
    else s
  | _, _ => s

/-! ### PROBE timeouts (08 R158) -/

/-- At a block boundary the blocks remaining fall by 1; the fall to 0 is NO_REPLY's (log 14). -/
def State.tickProbes (s : State) : State :=
  s.onRouter fun r => { r with probes := r.probes.map fun e =>
    if e.tickDue = true ∧ 2 ≤ e.blocks then { e with blocks := e.blocks - 1, tickDue := false } else e }

/-- NO_REPLY: a PROBE whose blocks remaining reach 0 leaves the list and is retired (08 R158). Where several do at one block
boundary the oldest goes first: the model's choice (log 42). -/
def State.expireProbe (s : State) : State :=
  let expired (e : ProbeEntry) : Bool := e.tickDue && decide (e.blocks ≤ 1)
  match s.router.probes.find? expired with
  | none => s
  | some e => (s.onRouter fun r => { r with probes := r.probes.eraseP expired }).requestRetire e.held .noReply 0

/-! ### What a channel reports (07 R134) -/

/-- The end of a message of the channel, transferred (`.done`) or dropped, with the bytes taken. -/
def State.report (s : State) (q : Queued) (outcome : OutcomeCode) (bytes : Nat) : State :=
  match q.origin with
  | .send h => s.requestRetire h outcome (octet bytes)
  | .router => if outcome = .done then s else s.dropMessage q.msg outcome
  | .lineUnit => s

/-- The flush of a channel whose port has left READY or LINKED (07 R142). -/
def State.flush (s : State) (p : Port) : State :=
  let c := s.channels[p]
  let s := s.onChannel p fun c => { c with inFlight := none, queue := [] }
  let s := match c.inFlight with
    | some f => s.report f.item .linkDown f.index
    | none => s
  let s := c.queue.foldl (fun s q => s.report q .linkDown 0) s
  (s.onChannel p fun _ => { senderDue := c.senderDue, receiverDue := c.receiverDue }).onRouter fun r =>
    { r with waits := r.waits.set p none, retryDue := r.retryDue.set p false }

end Sys2Proof.Machine
end

