-- ==== Sys2Proof/Machine/Channel.lean ====
section
/-! DEFINITION. The control channel of a port: sender, receiver, their timers (07). -/

namespace Sys2Proof.Machine

/-! ### The presented frame as the channel reads it (07 R127) -/

/-- The marks and the byte of a presented frame; `ready`: its peer code is READY, so the marks are read. -/
structure PeerMarks where
  ready : Bool
  byte : Octet
  offer : Bool
  last : Bool
  quit : Bool
  take : Bool
  halt : Bool
  deriving DecidableEq, Repr

def peerMarks (f : Frame) : PeerMarks :=
  { ready := peerCode f[1] == .ready, byte := f[0], offer := f[1].getLsbD 4, last := f[1].getLsbD 3,
    quit := f[1].getLsbD 2, take := f[1].getLsbD 1, halt := f[1].getLsbD 0 }

/-- The marks that port `p` presents at this boundary. -/
def State.peer (s : State) (p : Port) : PeerMarks := peerMarks s.lines[p].rx.presented

/-- The channel runs: its port is READY or LINKED (07 R125). -/
def State.channelRuns (s : State) (p : Port) : Bool := s.lines[p].line.runs

/-- The line unit takes over what the channel supplies for the frame of this boundary (07 R127; log 16). -/
def State.latchMarks (s : State) (p : Port) : State :=
  let c := s.channels[p]
  s.onLine p fun l => { l with tx := { l.tx with slot0 := c.slot0, marks := c.marks } }

/-- Work of the channel of port `p` at a boundary: a change of the sender or receiver state makes a status word write due
(02 R45, 07 R141), and the marks that stand afterwards are sent. A receiver that leaves HALTING and enters it again in one
event reports no change: the model's choice (log 44). -/
def State.channelWork (s : State) (p : Port) (f : State → State) : State :=
  let t := f s
  let t := if t.channels[p].sender = s.channels[p].sender ∧ t.channels[p].receiver = s.channels[p].receiver then t
    else t.onLine p fun l => { l with statusDue := true }
  t.latchMarks p

/-! ### The sender (07 7.3) -/

/-- Byte `i` of a message is offered against the TAKE mark presented (07 R129). -/
def Channel.offerByte (c : Channel) (item : Queued) (i : Nat) (peerTake : Bool) : Channel :=
  { c with sender := .offering, inFlight := some { item, index := i }, offer := !peerTake,
           last := i == item.msg.size - 1, quit := false, takeTimer := some 0 }

/-- An IDLE sender starts the message at the head of the queue (07 R129). -/
def Channel.startNext (c : Channel) (m : PeerMarks) : Channel :=
  if c.sender = .idle ∧ m.ready ∧ ¬ m.halt then
    match c.queue with
    | [] => c
    | q :: qs => { c with queue := qs }.offerByte q 0 m.take
  else c

/-- The sender without a message: IDLE, LAST and QUIT clear, its timers stopped. -/
def Channel.senderIdle (c : Channel) : Channel :=
  { c with sender := .idle, inFlight := none, last := false, quit := false, takeTimer := none, quitTimer := none }

/-- The sender's work of a boundary (07 R129 to R131). -/
def State.senderStep (s : State) (p : Port) : State :=
  let c := s.channels[p]
  let m := s.peer p
  match c.sender, c.inFlight with
  | .idle, _ => s.onChannel p fun c => c.startNext m
  | .offering, some f =>
    if !m.ready then s
    else if m.halt then
      (s.onChannel p fun c => { c.senderIdle with offer := m.take }).report f.item .peerHalt f.index
    else if m.take = c.offer then
      if f.index + 1 < f.item.msg.size then s.onChannel p fun c => c.offerByte f.item (f.index + 1) m.take
      else ((s.onChannel p fun c => c.senderIdle).report f.item .done f.item.msg.size).onChannel p fun c => c.startNext m
    else s
  | .offering, none | .quitting, _ => s

/-- The boundary work of the sender of port `p`, once a boundary. -/
def State.senderWork (s : State) (p : Port) : State :=
  if s.channels[p].senderDue then
    let s := s.onChannel p fun c => { c with senderDue := false }
    if s.channelRuns p then s.channelWork p fun s => s.senderStep p else s
  else s

/-- A timer has reached `n` frames. -/
def expired (n : Nat) : Option Nat → Bool
  | none => false
  | some k => decide (n ≤ k)

/-- TAKE_TIMEOUT (07 R132). -/
def State.takeTimeout (s : State) (p : Port) : State :=
  let c := s.channels[p]
  match c.inFlight with
  | some f =>
    if c.sender = .offering ∧ expired 64 c.takeTimer then
      s.channelWork p fun s =>
        (s.onChannel p fun c => { c with sender := .quitting, inFlight := none, last := false, quit := true,
                                          takeTimer := none, quitTimer := some 0 }).report f.item .takeTimeout f.index
    else s
  | none => s

/-- QUIT_TIMER_EXPIRY (07 R133). -/
def State.quitTimerExpiry (s : State) (p : Port) : State :=
  let c := s.channels[p]
  if c.sender = .quitting ∧ expired 2 c.quitTimer then
    s.channelWork p fun s => s.onChannel p fun c => c.senderIdle.startNext (s.peer p)
  else s

/-! ### The receiver (07 7.4) -/

/-- The receiver rejects the message: HALTING (07 R138). -/
def Channel.enterHalting (c : Channel) : Channel :=
  { c with receiver := .halting, partialMsg := [], stallTimer := none, halt := true, haltTimer := some 0 }

/-- The judgement of a byte that follows the bytes of a partial message (07 R136). -/
inductive Verdict where
  | reject
  | accept
  | complete
  deriving DecidableEq, Repr

/-- The checks of R136 on byte `b` at index `part.length`, with the presented LAST mark; `onlyIdentify`: the port is READY. -/
def judgeByte (onlyIdentify : Bool) (part : List Octet) (b : Octet) (last : Bool) : Verdict :=
  let i := part.length
  let final := 4 + (part.getD 3 0).toNat
  if i < 4 then
    if last then .reject
    else if i = 2 then
      match messageKind? (b.setWidth 4) with
      | none => .reject
      | some k => if onlyIdentify ∧ k ≠ .identify then .reject else .accept
    else if i = 3 ∧ 48 < b.toNat then .reject
    else .accept
  else if i < final then (if last then .reject else .accept)
  else if last ∧ byteSum (part ++ [b]) = 0 then .complete
  else .reject

/-- A byte taken into the partial message (07 R135, R136). -/
def Channel.takeByte (c : Channel) (m : PeerMarks) : Channel :=
  { c with take := m.offer, partialMsg := c.partialMsg ++ [m.byte], stallTimer := some 0, receiver := .receiving }

/-- The final byte taken: the message enters the holding and the router has it at once; an IDENTIFY waits there for
its line unit (07 R137; log 19). -/
def State.completeMessage (s : State) (p : Port) (m : PeerMarks) : State :=
  let msg := messageOf (s.channels[p].partialMsg ++ [m.byte])
  let s := s.onChannel p fun c => { c with take := m.offer, partialMsg := [], stallTimer := none, receiver := .idle, holding := msg }
  match msg with
  | some g => if g.kind = .identify then s else s.handToRouter p g
  | none => s

/-- The receiver's work of a boundary (07 R135, R136, R139). -/
def State.receiverStep (s : State) (p : Port) : State :=
  let c := s.channels[p]
  let m := s.peer p
  if !m.ready then s
  else if m.quit then
    s.onChannel p fun c =>
      if c.receiver = .receiving then { c with take := m.offer, receiver := .idle, partialMsg := [], stallTimer := none }
      else { c with take := m.offer }
  else if m.offer = c.take then s
  else match c.receiver with
    | .idle =>
      if c.holding.isSome then s
      else if m.last then s.onChannel p Channel.enterHalting
      else s.onChannel p fun c => { c with partialMsg := [] }.takeByte m
    | .receiving =>
      match judgeByte (s.lines[p].line == .ready) c.partialMsg m.byte m.last with
      | .reject => s.onChannel p Channel.enterHalting
      | .accept => s.onChannel p fun c => c.takeByte m
      | .complete => s.completeMessage p m
    | .halting => s

/-- The boundary work of the receiver of port `p`, once a boundary. -/
def State.receiverWork (s : State) (p : Port) : State :=
  if s.channels[p].receiverDue then
    let s := s.onChannel p fun c => { c with receiverDue := false }
    if s.channelRuns p then s.channelWork p fun s => s.receiverStep p else s
  else s

/-- STALL_TIMER_EXPIRY (07 R138). -/
def State.stallTimerExpiry (s : State) (p : Port) : State :=
  let c := s.channels[p]
  if c.receiver = .receiving ∧ expired 64 c.stallTimer then
    s.channelWork p fun s => s.onChannel p Channel.enterHalting
  else s

/-- HALT_TIMER_EXPIRY: IDLE again, and the presented frame of this boundary is read as an IDLE receiver reads it (07 R138). -/
def State.haltTimerExpiry (s : State) (p : Port) : State :=
  let c := s.channels[p]
  if c.receiver = .halting ∧ expired 2 c.haltTimer then
    s.channelWork p fun s =>
      (s.onChannel p fun c => { c with receiver := .idle, halt := false, haltTimer := none }).receiverStep p
  else s

/-! ### The edge -/

/-- The timers of a channel advance by one frame (02 R28). -/
def Channel.tick (c : Channel) : Channel :=
  { c with takeTimer := c.takeTimer.map (· + 1), quitTimer := c.quitTimer.map (· + 1),
           stallTimer := c.stallTimer.map (· + 1), haltTimer := c.haltTimer.map (· + 1),
           senderDue := true, receiverDue := true }

end Sys2Proof.Machine
end

