-- ==== Sys2Proof/Machine/Lines.lean ====
section
/-! DEFINITION. The port line units: line states, receivers, IDENTIFY, loop mode, status words (02). -/

namespace Sys2Proof.Machine

/-! ### Entries into a line state (02 R34, R46) -/

/-- The entry clears the peer-seen flag (02 R34). -/
def LineState.clearsPeerSeen : LineState → Bool
  | .quiet | .lost | .off => true
  | .awake | .ready | .linked => false

/-- An entry into a line state: the counts start at 0 and the status word is to be written (02 R34, R45). -/
def LineUnit.enter (l : LineUnit) (st : LineState) : LineUnit :=
  { l with line := st, wakeCount := 0, quietCount := 0, peerSeen := l.peerSeen && !st.clearsPeerSeen, statusDue := true }

/-- The line unit of port `p` moves and raises PORT attention once (02 R46). -/
def State.moveLine (s : State) (p : Port) (f : LineUnit → LineUnit) : State := (s.onLine p f).raise .port

/-- The channel of a port that was READY or LINKED is flushed when it leaves (07 R142). -/
def State.flushIf (s : State) (b : Bool) (p : Port) : State := if b then s.flush p else s

/-- The frame of this boundary is formed from the line state that the boundary's own moves leave (02 R29; log 16). -/
def State.latchLine (s : State) (p : Port) : State :=
  s.onLine p fun l => { l with tx := { l.tx with line := l.line } }

/-- A receiver restarted at an entry into QUIET: HUNTING, both counts 0 (02 R32). -/
def PortReceiver.restart (r : PortReceiver) : PortReceiver :=
  { r with status := .hunting, markCount := 0, missCount := 0, candidate := none, latest := none }

/-- A receiver put into STOPPED (02 R32). -/
def PortReceiver.stop (r : PortReceiver) : PortReceiver :=
  { r with status := .stopped, candidate := none, latest := none }

/-- Entry into LOST (02 R42). -/
def State.toLost (s : State) (p : Port) : State :=
  let from' := s.lines[p].line
  (s.moveLine p fun l => { l.enter .lost with peer := 0, identifyTimer := none, lostTimer := some 0 }).flushIf from'.runs p

/-- Entry into QUIET afresh, with a loop flag (02 R36, R42). -/
def State.toQuiet (s : State) (p : Port) (loop : Bool) : State :=
  let from' := s.lines[p].line
  (s.moveLine p fun l => { l.enter .quiet with loop := loop, peer := 0, identifyTimer := none, lostTimer := none,
                                                rx := l.rx.restart }).flushIf from'.runs p

/-- Entry into OFF (02 R36). -/
def State.toOff (s : State) (p : Port) : State :=
  let from' := s.lines[p].line
  (s.moveLine p fun l => { l.enter .off with loop := false, peer := 0, identifyTimer := none, lostTimer := none,
                                              rx := l.rx.stop }).flushIf from'.runs p

/-- The IDENTIFY message of this node (02 R39). -/
def State.identifyMessage (s : State) : Message :=
  { dest := 0, source := s.router.node, hop := 0, kind := .identify, payload := [] }

/-- Entry into READY: the IDENTIFY is the queue's only message, and the identify timer starts (02 R39, 07 R128). -/
def State.toReady (s : State) (p : Port) : State :=
  let msg := s.identifyMessage
  (s.moveLine p fun l => { l.enter .ready with identifyTimer := some 0 }).onChannel p fun c =>
    { c with queue := [{ msg := msg, origin := .lineUnit }] }

/-! ### Events of a boundary -/

/-- WAKE_COUNT_READY (02 R38, R39). -/
def State.wakeCountReady (s : State) (p : Port) : State :=
  let l := s.lines[p]
  if l.line = .awake ∧ 8 ≤ l.wakeCount then ((s.toReady p).latchLine p).latchMarks p else s

/-- The line state reads the peer code and keeps counts (02 R34). -/
def LineState.counts : LineState → Bool
  | .awake | .ready | .linked => true
  | .off | .quiet | .lost => false

/-- QUIET_COUNT_LOSS (02 R38, R40 to R42). -/
def State.quietCountLoss (s : State) (p : Port) : State :=
  let l := s.lines[p]
  if l.line.counts ∧ 4 ≤ l.quietCount then (s.toLost p).latchLine p else s

/-- IDENTIFY_TIMEOUT (02 R40). -/
def State.identifyTimeout (s : State) (p : Port) : State :=
  let l := s.lines[p]
  if l.line = .ready ∧ expired 256 l.identifyTimer then (s.toLost p).latchLine p else s

/-- LOST_TIMER_EXPIRY (02 R42). -/
def State.lostTimerExpiry (s : State) (p : Port) : State :=
  let l := s.lines[p]
  if l.line = .lost ∧ expired 16 l.lostTimer then (s.toQuiet p l.loop).latchLine p else s

/-! ### IDENTIFY (02 R40, R41) -/

/-- A source that names a node (02 R40). -/
def isNode (b : Octet) : Bool := b != 0 && b != 255

/-- A completed IDENTIFY reaches the line unit, and the holding is empty again (02 R40, R41, 07 R137). -/
def State.identify (s : State) (p : Port) : State :=
  match s.channels[p].holding with
  | none => s
  | some m =>
    if m.kind ≠ .identify then s
    else
      let s := s.onChannel p fun c => { c with holding := none }
      match s.lines[p].line with
      | .ready =>
        if isNode m.source then
          (s.moveLine p fun l => { l.enter .linked with peer := m.source, identifyTimer := none }).latchLine p
        else s
      | .linked =>
        if isNode m.source ∧ m.source ≠ s.lines[p].peer then
          s.moveLine p fun l => { l with peer := m.source, statusDue := true }
        else s
      | .off | .quiet | .awake | .lost => s

/-! ### The receiver (02 2.3) -/

/-- ALIGNED: the mark count has reached 4 (02 R31, R37). -/
def State.alignedEvent (s : State) (p : Port) : State :=
  let l := s.lines[p]
  if l.rx.status = .hunting ∧ 4 ≤ l.rx.markCount then
    let s := s.onLine p fun l => { l with rx := { l.rx with status := .aligned, missCount := 0 } }
    if l.line = .quiet then s.moveLine p fun l => l.enter .awake else s
  else s

/-- MISALIGNED: the miss count has reached 3 (02 R32, R38, R42). Where it flushes the channel before the channel's work of the
boundary, slot 0 and the marks of the frame under way stay those of the frame before: the model's choice (log 43). One that
falls at a boundary (02 R31, R44; 03 R50; 04 R78) is in the model one of the commands beside the edge. After the edge the port has
been LINKED at the boundary, and its octets of it stay seen; before the edge the port has left, its octets are idle, and
the boundary is the first that the lost timer counts. That no third case exists is the model's choice (log 53). -/
def State.misalignedEvent (s : State) (p : Port) : State :=
  let l := s.lines[p]
  if l.rx.status = .aligned ∧ 3 ≤ l.rx.missCount then
    let s := s.onLine p fun l => { l with rx := { l.rx with status := .hunting, markCount := 0, candidate := none, latest := none } }
    if l.line.counts then s.toLost p else s
  else s

/-- The receiver's reports come before its next mark or boundary. -/
def State.settleReceiver (s : State) (p : Port) : State := (s.alignedEvent p).misalignedEvent p

/-- A receive frame at the expected position, with or without its mark (02 R31, R32; log 18). -/
def PortReceiver.frame (r : PortReceiver) (mark : Bool) (octets : Frame) : PortReceiver :=
  match r.status with
  | .stopped => r
  | .hunting =>
    match r.candidate with
    | none => r
    | some _ =>
      if mark then { r with markCount := r.markCount + 1, latest := if 4 ≤ r.markCount + 1 then some octets else none }
      else { r with candidate := none, markCount := 0 }
  | .aligned => { r with missCount := if mark then 0 else r.missCount + 1, latest := some octets }

/-- A HUNTING receiver takes a mark at a position as its candidate (02 R31). -/
def PortReceiver.mark (r : PortReceiver) (position : Fin 256) : PortReceiver :=
  if r.status = .hunting ∧ r.candidate = none then { r with candidate := some position, markCount := 1 } else r

/-- A frame of this port goes round the loop and has not arrived; with the loop flag clear the receiver reads PnRX and not
the loop (02 R43). -/
def LineUnit.loopSends (l : LineUnit) : Bool := l.loop && l.tx.loop && l.tx.line != .off && !l.loopArrived

/-- The looped frame arrives with its mark: a first candidate, or a frame at the expected position.
Its octets are taken at the boundary that presents them (02 R43; log 17). -/
def State.loopArrive (s : State) (p : Port) (position : Fin 256) : State :=
  if s.lines[p].loopSends then
    (s.settleReceiver p).onLine p fun l =>
      { l with loopArrived := true,
               rx := if l.rx.status = .hunting ∧ l.rx.candidate = none then l.rx.mark position else l.rx.frame true idleFrame }
  else s

/-- RECEIVE_FRAME: in loop mode PnRX is not read (02 R43). -/
def State.receiveFrame (s : State) (p : Port) (mark : Bool) (octets : Frame) : State :=
  if s.lines[p].loop then
    if s.lines[p].rx.status = .hunting ∧ s.lines[p].rx.candidate = none then s else s.loopArrive p 0
  else (s.settleReceiver p).onLine p fun l => { l with rx := l.rx.frame mark octets }

/-- CANDIDATE_MARK (02 R31); in loop mode the mark is the port's own (02 R43). -/
def State.candidateMark (s : State) (p : Port) (position : Fin 256) : State :=
  if s.lines[p].loop then
    if s.lines[p].rx.status = .hunting ∧ s.lines[p].rx.candidate = none then s.loopArrive p position else s
  else (s.settleReceiver p).onLine p fun l => { l with rx := l.rx.mark position }

/-! ### The edge (02 R27, R33, R34) -/

/-- The frame that a receiver presents at a boundary; `looped` is the frame that came round the loop (02 R33, R43). -/
def PortReceiver.present (r : PortReceiver) (looped : Option Frame) : PortReceiver :=
  { r with
    presented := match r.status with
      | .aligned => (looped <|> r.latest).getD r.presented
      | .hunting | .stopped => idleFrame
    latest := none }

/-- The counts of the peer code presented (02 R34). -/
def LineUnit.countPeer (l : LineUnit) : LineUnit :=
  if l.line.counts then
    match peerCode l.rx.presented[1] with
    | .wake | .ready => { l with wakeCount := min 8 (l.wakeCount + 1), quietCount := 0, peerSeen := true }
    | .quiet => { l with wakeCount := 0, quietCount := if l.peerSeen then min 4 (l.quietCount + 1) else l.quietCount }
  else l

/-- The line unit at an edge: the inbound frame is presented, the peer code counted, the timers advance, and a new
frame is sent from the line state as it stands (log 13, log 15, log 16). Slot 0 and the marks are taken at the channel's
work. A PORT_SETUP or a MISALIGNED that flushes the channel before that work leaves those of the frame before in the frame under
way: the model's choice (log 43). -/
def LineUnit.edge (l : LineUnit) (sent : Option Frame) : LineUnit :=
  let looped := if l.loop ∧ l.tx.loop ∧ l.loopArrived then sent else none
  let l := { l with rx := l.rx.present looped, loopArrived := false,
                    tx := { l.tx with line := l.line, loop := l.loop },
                    identifyTimer := l.identifyTimer.map (· + 1), lostTimer := l.lostTimer.map (· + 1) }
  let l := l.countPeer
  { l with seen := l.line == .linked && decide (l.quietCount < 4) }

/-- The edge at the line unit and the channel of a port. -/
def State.edgePort (s : State) (p : Port) : State :=
  let sent := s.sentFrame p
  (s.onLine p fun l => l.edge sent).onChannel p Channel.tick

/-! ### The port status word (02 R45) -/

/-- PORT_STATUS_WRITE: the content as it stands, once the header is written; a bus error raises BUS and halts nothing. -/
def State.portStatusWrite (s : State) (p : Port) : State :=
  if s.lines[p].statusDue ∧ s.walker.headerWritten then
    let s := s.onLine p fun l => { l with statusDue := false }
    let r := s.writeWord (BitVec.ofNat 20 (0x10 + 4 * p.val)) (s.portStatusWord p)
    r.2.raiseIf (!r.1) .bus
  else s

/-! ### A port that leaves LINKED at a take (02 R44; 03 R50; 04 R78; log 15)

The octets that the port presents at the boundary of the take are the idle octet to every consumer, whether the consumer's
work comes before the take or after it. A take between two boundaries leaves them as they were: the port was LINKED at the
boundary (log 49). -/

/-- The loud octets of the port counted at this boundary are taken back (04 R78). -/
def Activity.uncount (a : Activity) (p : Port) : Activity :=
  { a with slots := tabulate 120 fun k =>
      if SlotIndex.port k = p ∧ a.counted[k] then { a.slots[k] with loud := a.slots[k].loud - 1 } else a.slots[k] }

/-- The octet in a scan group's source octet comes from an inbound slot of the port. -/
def Switch.scansFrom (w : Switch) (p : Port) (g : GroupNo) : Bool :=
  match w.scanFrom[g] with
  | some k => SlotIndex.port k == p
  | none => false

/-- The port's octets among the source octets read at this boundary become the idle octet (03 R50, 05 R90). -/
def Switch.unread (w : Switch) (p : Port) : Switch :=
  if w.sourcesDue then w
  else { w with
    srcSlots := tabulate 120 fun k => if SlotIndex.port k = p then idleOctet else w.srcSlots[k]
    srcScans := tabulate 8 fun g => if w.scansFrom p g then idleOctet else w.srcScans[g] }

/-- The octet that a TAP of the port has placed at this boundary becomes the idle octet while it stands in the word buffer;
a word write has taken its octets with it (06 R112). -/
def Stream.untap (p : Port) (t : Stream) : Stream :=
  match t.desc with
  | none => t
  | some d =>
    match d.dir with
    | .feed => t
    | .tap k =>
      if SlotIndex.port k = p ∧ t.frameDue = false ∧ d.status = .opened ∧ d.buffer ≠ [] then
        { t with desc := some { d with buffer := d.buffer.dropLast ++ [idleOctet] } }
      else t

/-- A port that leaves LINKED at this boundary was not LINKED at it. -/
def State.unsee (s : State) (p : Port) : State :=
  if s.lines[p].line = .linked ∧ s.lines[p].seen ∧ s.timer.passed = false then
    let s := s.onLine p fun l => { l with seen := false }
    let s := (s.onActivity fun a => a.uncount p).onSwitch fun w => w.unread p
    { s with streams := mapAll (Stream.untap p) s.streams }
  else s

/-! ### PORT_SETUP (02 R35, R36) -/

/-- PORT_SETUP at take: outcome, detail, and the port's move. -/
def State.portSetup (s : State) (r : WorkRecord) : OutcomeCode × Octet × State :=
  if h : (r.byte 0 0).toNat < 4 then
    let p : Port := ⟨(r.byte 0 0).toNat, h⟩
    let detail := s.lines[p].line.code
    let enable := (r.byte 0 1).getLsbD 0
    if enable ∧ s.router.node = 0 then (.state, detail, s)
    else if enable then (.done, detail, (s.unsee p).toQuiet p ((r.byte 0 1).getLsbD 1))
    else if s.lines[p].line = .off then (.done, detail, s)
    else (.done, detail, (s.unsee p).toOff p)
  else (.badSlot, 0, s)

end Sys2Proof.Machine
end

