-- ==== Sys2Proof/Machine/Scan.lean ====
section
/-! DEFINITION. The scan unit: eligibility, search, scan step, output, SET_SCAN and SCAN_CONTROL (05). -/

namespace Sys2Proof.Machine

/-! ### Eligibility and search (05 R91, R92) -/

/-- A member is eligible (05 R91). -/
def Activity.eligible (a : Activity) (skipSilent : Bool) (m : Member) : Bool :=
  decide (0 < m.dwell) && match m.source with
    | .stream _ => true
    | .slot k => !skipSilent || a.slots[k].active

/-- The member at an index exists and is eligible. -/
def ScanGroup.eligibleAt (a : Activity) (g : ScanGroup) (i : Nat) : Bool :=
  match g.members[i]? with
  | none => false
  | some m => a.eligible g.skipSilent m

/-- The dwell of the member at an index. -/
def ScanGroup.dwellAt (g : ScanGroup) (i : Nat) : Nat :=
  match g.members[i]? with
  | none => 0
  | some m => m.dwell

/-- A member becomes current with its full dwell (05 R92, R102). -/
def ScanGroup.choose (g : ScanGroup) (i : Nat) : ScanGroup := { g with current := some i, dwell := g.dwellAt i }

/-- A search over member indices in an order: the first eligible one, or the group is EMPTY (05 R92). -/
def ScanGroup.searchIn (a : Activity) (g : ScanGroup) (order : List Nat) : ScanGroup :=
  match order.find? fun i => g.eligibleAt a i with
  | some i => g.choose i
  | none => { g with current := none, dwell := 0 }

/-- The indices from 0 to the last. -/
def ScanGroup.fromStart (g : ScanGroup) : List Nat := List.range g.members.length

/-- The indices from the one after `cur`, cyclically, to `cur` itself (05 R92). -/
def ScanGroup.onward (g : ScanGroup) (cur : Nat) : List Nat :=
  (List.range g.members.length).map fun j => (cur + 1 + j) % g.members.length

/-- The onward search of a running group, or the search of an EMPTY one (05 R92, R101). -/
def ScanGroup.search (a : Activity) (g : ScanGroup) : ScanGroup :=
  match g.current with
  | some cur => g.searchIn a (g.onward cur)
  | none => g.searchIn a g.fromStart

/-! ### The scan step (05 R93, R94) -/

/-- The dwell of a running group is lowered, and the group searches onward if it is due (05 R93). -/
def ScanGroup.lower (a : Activity) (g : ScanGroup) (cur : Nat) : ScanGroup :=
  let g := { g with dwell := g.dwell - 1 }
  if g.dwell = 0 ∨ (g.skipSilent = true ∧ g.eligibleAt a cur = false) then g.search a else g

/-- One group at a scan step. -/
def ScanGroup.step (a : Activity) (g : ScanGroup) : ScanGroup :=
  if g.hold then g
  else match g.current with
    | some cur => g.lower a cur
    | none => g.search a

/-- SCAN_STEP at every group, once in the frame in which it is due; a reading ahead of it stands from here on (05 R90). -/
def State.scanStep (s : State) : State :=
  if s.timer.scanDue then
    { (s.onTimer fun t => { t with scanDue := false }).onSwitch fun w => { w with scanAhead := Vector.replicate 8 false } with
      groups := mapAll (ScanGroup.step s.activity) s.groups }
  else s

/-! ### The output of a group (05 R90) -/

/-- The output of a group, from the inbound octets of this boundary and the streams' current octets. -/
def State.groupOutput (s : State) (g : ScanGroup) : Octet :=
  match g.current with
  | none => idleOctet
  | some i =>
    match g.members[i]? with
    | none => idleOctet
    | some m =>
      match m.source with
      | .slot k => s.inboundOctet k
      | .stream n => s.streams[n].current

/-- The inbound slot that a group's current member names, if it is a SLOT member. -/
def ScanGroup.currentSlot (g : ScanGroup) : Option SlotIndex :=
  match g.current with
  | none => none
  | some i =>
    match g.members[i]? with
    | none => none
    | some m =>
      match m.source with
      | .slot k => some k
      | .stream _ => none

/-- A take that changes group `g` comes after the switch has read its output ahead of the scan step: the output of the frame is
that of the member current before the take (05 R98, R103; log 47). -/
def State.readBeforeTake (s : State) (g : GroupNo) : State :=
  if s.switch.scanAhead[g] then
    let o := s.groupOutput s.groups[g]
    let k := s.groups[g].currentSlot
    s.onSwitch fun w => { w with
      srcScans := w.srcScans.set g o, scanFrom := w.scanFrom.set g k, scanAhead := w.scanAhead.set g false }
  else s

/-! ### SET_SCAN (05 R96, R97) -/

/-- The stream of a member is an open FEED, if it names one (05 R96, check 7). -/
def State.memberStreamOk (s : State) (m : Member) : Bool :=
  match m.source.stream? with
  | some n => s.isOpenFeed n
  | none => true

/-- Checks 4 to 7 of R96 on members numbered from `k`. -/
def State.checkMembers (s : State) : Nat → List Word → Except (OutcomeCode × Octet) (List Member)
  | _, [] => .ok []
  | k, w :: ws =>
    match parseMember w with
    | .error o => .error (o, octet k)
    | .ok m =>
      if s.memberStreamOk m then
        match s.checkMembers (k + 1) ws with
        | .error e => .error e
        | .ok ms => .ok (m :: ms)
      else .error (.noStream, octet k)

/-- The checks of R96: the group and its new list, or the first failure. -/
def State.checkSetScan (s : State) (r : WorkRecord) : Except (OutcomeCode × Octet) (GroupNo × List Member) :=
  let count := (r.byte 0 1).toNat
  if h : (r.byte 0 0).toNat < 8 then
    if 8 < count then .error (.badField, 0)
    else if r.body.length < 1 + count then .error (.badLength, 0)
    else match s.checkMembers 1 ((List.range count).map fun k => r.word (1 + k)) with
      | .error e => .error e
      | .ok ms => .ok (⟨(r.byte 0 0).toNat, h⟩, ms)
  else .error (.badField, 0)

/-- The losses of a member list are reported (05 R97). -/
def State.memberLosses (s : State) (ms : List Member) : State :=
  (ms.filterMap fun m => m.source.stream?).foldl State.refLoss s

/-- The gains of a member list are reported (05 R97). -/
def State.memberGains (s : State) (ms : List Member) : State :=
  (ms.filterMap fun m => m.source.stream?).foldl State.refGain s

/-- The index of the current member, or 0xFF (05 R97, R99). -/
def ScanGroup.detail (g : ScanGroup) : Octet :=
  match g.current with
  | some i => octet i
  | none => 0xFF

/-- SET_SCAN at take (05 R97). -/
def State.setScan (s : State) (r : WorkRecord) : OutcomeCode × Octet × State :=
  match s.checkSetScan r with
  | .error (o, detail) => (o, detail, s)
  | .ok (g, ms) =>
    let s := ((s.readBeforeTake g).memberLosses s.groups[g].members).memberGains ms
    let fresh : ScanGroup := { members := ms, skipSilent := (r.byte 0 2).getLsbD 0, hold := (r.byte 0 2).getLsbD 1 }
    let placed := fresh.searchIn s.activity fresh.fromStart
    (.done, placed.detail, s.onGroup g fun _ => placed)

/-! ### SCAN_CONTROL (05 R99 to R102) -/

/-- What a SCAN_CONTROL does to a group whose number and action code are good: the group changed, or a failure. -/
def ScanGroup.control (a : Activity) (g : ScanGroup) (action index : Nat) : Except OutcomeCode ScanGroup :=
  if action = 1 then .ok { g with hold := true }
  else if action = 2 then .ok { g with hold := false }
  else if action = 3 then .ok (g.search a)
  else if action = 4 then
    if 8 ≤ index then .error .badField
    else if g.eligibleAt a index then .ok (g.choose index)
    else .error .state
  else .error .badField

/-- HOLD on a group already held and RELEASE on a group not held change nothing (05 R100). -/
def ScanGroup.unmoved (g : ScanGroup) (action : Nat) : Bool := (action == 1 && g.hold) || (action == 2 && !g.hold)

/-- A reading ahead of the scan step is put right by a SCAN_CONTROL, unless it is one that changes nothing (05 R98, R100, R103;
log 47). -/
def State.readBeforeControl (s : State) (g : GroupNo) (action : Nat) : State :=
  if s.groups[g].unmoved action then s else s.readBeforeTake g

/-- SCAN_CONTROL at take. -/
def State.scanControl (s : State) (r : WorkRecord) : OutcomeCode × Octet × State :=
  if h : (r.byte 0 0).toNat < 8 then
    let g : GroupNo := ⟨(r.byte 0 0).toNat, h⟩
    let action := (r.byte 0 1).toNat
    match s.groups[g].control s.activity action (r.byte 0 2).toNat with
    | .error o => (o, 0, s)
    | .ok t => (.done, t.detail, (s.readBeforeControl g action).onGroup g fun _ => t)
  else (.badField, 0, s)

end Sys2Proof.Machine
end

