-- ==== Sys2Proof/Machine/Streams.lean ====
section
/-! DEFINITION. The stream engine: octets, accesses, handover, resumption, open, close, fault (06). -/

namespace Sys2Proof.Machine

/-! ### Descriptors -/

def Half.other : Half → Half
  | .a => .b
  | .b => .a

/-- The offset of a half. -/
def StreamDesc.halfOffset (d : StreamDesc) : Half → Offset
  | .a => d.halfA
  | .b => d.halfB

/-- The waiting state of a direction: a TAP is STALLED, a FEED MUTED (06 6.1). -/
def Direction.waiting : Direction → StreamStatus
  | .tap _ => .stalled
  | .feed => .muted

/-- The stream waits for a half. -/
def StreamStatus.waits : StreamStatus → Bool
  | .stalled | .muted => true
  | .opened | .fault => false

/-- A change of the descriptor of stream `n`, if it is open. -/
def State.onDesc (s : State) (n : StreamNo) (f : StreamDesc → StreamDesc) : State :=
  s.onStream n fun t => { t with desc := t.desc.map f }

/-- The frame work of this boundary is done. -/
def State.frameDone (s : State) (n : StreamNo) : State := s.onStream n fun t => { t with frameDue := false }

/-- The current octet of a FEED for the present frame (06 R114). -/
def State.setCurrent (s : State) (n : StreamNo) (o : Octet) : State := s.onStream n fun t => { t with current := o }

/-! ### Fault (06 R122) -/

/-- The stream enters FAULT: accesses not yet made are dropped, and one exchange writes the state, unless the failing
access was itself one to the status block (06 R122). -/
def State.faultStream (s : State) (n : StreamNo) (d : StreamDesc) (atStatusBlock : Bool) : State :=
  let s := s.onDesc n fun d => { d with status := .fault, accesses := [], finished := false, buffer := [], resumeDue := false }
  let s := if atStatusBlock then s else (s.exchange d.block (withStatus StreamStatus.fault.code)).2
  (s.raise .stream).raise .bus

/-! ### Octets (06 R112, R113) -/

/-- A TAP places an octet at its position; a full word is issued as a write; at L the half is finished (06 R112). -/
def StreamDesc.place (d : StreamDesc) (o : Octet) : StreamDesc :=
  let buffer := d.buffer ++ [o]
  let position := d.position + 1
  let d := { d with buffer, position }
  let d := if position % 4 = 0 then
      { d with buffer := [],
               accesses := d.accesses ++ [.putWord (d.halfOffset d.half + BitVec.ofNat 20 (position - 4)) (wordOfList idleOctet buffer)] }
    else d
  if position = d.len then { d with finished := true, position := 0 } else d

/-- The octet that a FEED has for its position: the idle octet if the word has not arrived (06 R113). -/
def StreamDesc.octetHere (d : StreamDesc) : Octet :=
  if d.bufferWord = d.position / 4 then d.buffer.getD (d.position % 4) idleOctet else idleOctet

/-- A FEED moves on by one octet: the next word is issued as a read during the frame in which the last octet of the word
before it is current; at L the half is finished (06 R113). -/
def StreamDesc.play (d : StreamDesc) : StreamDesc :=
  let position := d.position + 1
  if position = d.len then { d with finished := true, position := 0, buffer := [] }
  else if position % 4 = 0 then
    { d with position, accesses := d.accesses ++ [.getWord (d.halfOffset d.half + BitVec.ofNat 20 position) (position / 4)] }
  else { d with position }

/-- A read of word 0 of the current half is issued (06 R113). -/
def StreamDesc.readFirst (d : StreamDesc) : StreamDesc :=
  { d with accesses := d.accesses ++ [.getWord (d.halfOffset d.half) 0] }

/-- The octet of a TAP's boundary is placed (06 R112). -/
def State.tapOctet (s : State) (n : StreamNo) (k : SlotIndex) : State :=
  let o := s.inboundOctet k
  s.onDesc n fun d => d.place o

/-- The exchange of this boundary, a block boundary, is still to be made or still to end (06 R117). -/
def StreamDesc.resumeOpen (d : StreamDesc) : Bool := d.resumeDue || d.accesses.contains (.resume false)

/-- The frame work of stream `n`, once a boundary (06 R112 to R117). A STALLED TAP at a block boundary keeps its octet
until that boundary's exchange has ended. -/
def State.streamWork (s : State) (n : StreamNo) : State :=
  if s.streams[n].frameDue then
    match s.streams[n].desc with
    | none => s.frameDone n
    | some d =>
      match d.dir with
      | .tap k =>
        if d.status = .opened ∧ ¬ d.finished then (s.tapOctet n k).frameDone n
        else if d.status.waits ∧ d.resumeOpen then s
        else s.frameDone n
      | .feed =>
        if d.status = .opened ∧ ¬ d.finished then
          ((s.setCurrent n d.octetHere).onDesc n StreamDesc.play).frameDone n
        else (s.setCurrent n idleOctet).frameDone n
  else s

/-! ### Resumption (06 R117) -/

/-- The stream runs again in the half it awaited. -/
def StreamDesc.resumed (d : StreamDesc) : StreamDesc :=
  { d with status := .opened, position := 0, buffer := [], finished := false }

/-- The stream resumes in the half it awaited, if it still waits and status word 0 gives it that half (06 R117). -/
def StreamDesc.resumes (d : StreamDesc) (w : Word) : Bool := d.status.waits && ownerByte w d.half == ownerPart

/-- Status word 0 in the exchange of a block boundary: the state as the exchange leaves it, the rest as read
(06 R109, R117; log 48). -/
def StreamDesc.resumeWord (d : StreamDesc) (w : Word) : Word :=
  withStatus (if d.resumes w then StreamStatus.opened.code else d.status.code) w

/-- The exchange of a block boundary ends (06 R117). Only one that ends before another frame boundary has come lets a TAP
place the octet of its block boundary. One that finds the stream resumed by an earlier exchange changes nothing of it
(log 21). -/
def State.resumeExchange (s : State) (n : StreamNo) (d : StreamDesc) (late : Bool) : State :=
  match s.exchange d.block d.resumeWord with
  | (none, s) => s.faultStream n d true
  | (some w, s) =>
    if d.resumes w then
      let s := s.onDesc n StreamDesc.resumed
      match d.dir with
      | .tap k => (if s.streams[n].frameDue ∧ ¬ late then s.tapOctet n k else s).frameDone n
      | .feed => ((s.onDesc n StreamDesc.readFirst).setCurrent n idleOctet).frameDone n
    else s

/-- The exchange of this block boundary is issued (06 R117). -/
def StreamDesc.issueResume (d : StreamDesc) : StreamDesc :=
  if d.resumeDue then
    { d with resumeDue := false, accesses := if d.status.waits then d.accesses ++ [.resume false] else d.accesses }
  else d

/-! ### Accesses that end some time later (06 R108) -/

/-- The oldest access of the stream ends. It lands at AREA_BASE as it stands then, also where it was issued before a write of
AREA_BASE: the model's choice (log 46). -/
def State.completeAccess (s : State) (n : StreamNo) : State :=
  match s.streams[n].desc with
  | none => s
  | some d =>
    match d.accesses with
    | [] => s
    | a :: rest =>
      let s := s.onDesc n fun d => { d with accesses := rest }
      match a with
      | .putWord off w =>
        let r := s.writeWord off w
        if r.1 then r.2 else r.2.faultStream n d false
      | .getWord off index =>
        match s.readWord off with
        | (some w, s) => s.onDesc n fun d => { d with buffer := octetsOf w, bufferWord := index }
        | (none, s) => s.faultStream n d false
      | .resume late => s.resumeExchange n d late

/-- STREAM_ACCESS_COMPLETION. A word that arrives after a boundary is not there for that boundary's octet, so a FEED's frame
work of the boundary comes first (06 R113). -/
def State.endAccess (s : State) (n : StreamNo) : State :=
  match s.streams[n].desc with
  | none => s
  | some d => if d.dir = .feed ∧ d.accesses ≠ [] then (s.streamWork n).completeAccess n else s.completeAccess n

/-- Every access that the stream has issued ends, in order. -/
def State.drain (s : State) (n : StreamNo) : State :=
  match s.streams[n].desc with
  | none => s
  | some d => d.accesses.foldl (fun s _ => s.completeAccess n) s

/-- The block boundary at stream `n`: its exchange is issued, and ends at once unless it is late (06 R117). -/
def State.blockStream (s : State) (late : List StreamNo) (n : StreamNo) : State :=
  match s.streams[n].desc with
  | none => s
  | some d =>
    if d.resumeDue then
      let s := s.onDesc n StreamDesc.issueResume
      if late.contains n ∨ d.accesses ≠ [] then s else s.completeAccess n
    else s

/-! ### Handover (06 R115, R116) -/

/-- The stream leaves a finished half for the other. -/
def StreamDesc.turn (d : StreamDesc) (status : StreamStatus) : StreamDesc :=
  { d with status, half := d.half.other, position := 0, buffer := [], finished := false }

/-- A boundary met before the handover moved no octet (06 R115). -/
def State.missedBoundary (s : State) (n : StreamNo) : State :=
  if s.streams[n].frameDue then (s.setCurrent n idleOctet).frameDone n else s

/-- Status word 0 in the exchange of a handover of half `h` (06 R115, R116). -/
def handoverWord (h : Half) (waiting : StreamStatus) (w : Word) : Word :=
  if ownerByte w h.other = ownerPart then withOwner h ownerHost (withStatus StreamStatus.opened.code w)
  else withBreak 1 (withOwner h ownerHost (withStatus waiting.code w))

/-- The half is finished and every access before the handover has ended. -/
def StreamDesc.handoverDue (d : StreamDesc) : Bool := d.status == .opened && d.finished && d.accesses.isEmpty

/-- HANDOVER (06 R115, R116). -/
def State.handover (s : State) (n : StreamNo) : State :=
  match s.streams[n].desc with
  | none => s
  | some d =>
    if d.handoverDue then
      let s := s.onDesc n fun d => { d with lastHanded := some d.half }
      let r := s.writeWord (d.block + 4) (statusWord1 d.len (some d.half))
      if !r.1 then r.2.faultStream n d true
      else match r.2.exchange d.block (handoverWord d.half d.dir.waiting) with
        | (none, s) => s.faultStream n d true
        | (some w, s) =>
          if ownerByte w d.half.other = ownerPart then
            let s := s.onDesc n fun d => d.turn .opened
            let s := if d.dir = .feed then s.onDesc n StreamDesc.readFirst else s
            (s.missedBoundary n).raiseIf d.notify .stream
          else ((s.onDesc n fun d => d.turn d.dir.waiting).missedBoundary n).raise .stream
    else s

/-! ### OPEN_STREAM (06 R110, R111) -/

/-- The checks of R110 on a record: outcome and detail of the first that fails, or the number and its descriptor. -/
def State.checkOpen (s : State) (r : WorkRecord) : Except (OutcomeCode × Octet) (StreamNo × StreamDesc) :=
  if h : (r.byte 0 0).toNat < 16 then
    let n : StreamNo := ⟨(r.byte 0 0).toNat, h⟩
    let dirCode := (r.byte 0 1).toNat
    let len := (r.byte 1 2).toNat + 256 * (r.byte 1 3).toNat
    let tapSlot := slotIndex? (r.byte 1 0).toNat (r.byte 1 1).toNat
    if dirCode ≠ 1 ∧ dirCode ≠ 2 then .error (.badField, 0)
    else if s.streams[n].desc.isSome then .error (.inUse, 0)
    else if len < 8 ∨ 1024 < len ∨ len % 4 ≠ 0 then .error (.badField, 0)
    else match (if dirCode = 1 then tapSlot.map Direction.tap else some .feed) with
      | none => .error (.badSlot, 0)
      | some dir =>
        match areaOffset? (r.word 2) len, areaOffset? (r.word 3) len, areaOffset? (r.word 4) 8 with
        | none, _, _ => .error (.badOffset, 1)
        | some _, none, _ => .error (.badOffset, 2)
        | some _, some _, none => .error (.badOffset, 3)
        | some a, some b, some block =>
          .ok (n, { status := .opened, dir, halfA := a, halfB := b, len, block, notify := (r.byte 0 2).getLsbD 0 })
  else .error (.badField, 0)

/-- The state in which a stream opens, from status word 0 as read (06 R111). -/
def openStatus (dir : Direction) (w : Word) : StreamStatus :=
  if ownerByte w .a = ownerPart then .opened else dir.waiting

/-- OPEN_STREAM at take: outcome, detail and the stream opened (06 R111). Where the switch has read its sources of the boundary
before the take, the octet that it read under this number stands for the frame: the model's choice (06 R114, 03 R49; log 50). -/
def State.openStream (s : State) (r : WorkRecord) : OutcomeCode × Octet × State :=
  match s.checkOpen r with
  | .error (o, detail) => (o, detail, s)
  | .ok (n, d) =>
    let s := s.onStream n fun _ => { desc := some d }
    let failed (s : State) : OutcomeCode × Octet × State :=
      (.busError, StreamStatus.fault.code, s.faultStream n d true)
    match s.exchange d.block fun w => withBreak 0 (withStatus (openStatus d.dir w).code w) with
    | (none, s) => failed s
    | (some w, s) =>
      let status := openStatus d.dir w
      let r := s.writeWord (d.block + 4) (statusWord1 0 none)
      if !r.1 then failed r.2
      else
        let s := r.2.onDesc n fun d => { d with status }
        let s := if d.dir = .feed ∧ status = .opened then s.onDesc n StreamDesc.readFirst else s
        (.done, status.code, s)

/-! ### CLOSE_STREAM (06 R119 to R121) -/

/-- The number is free again (06 R119). -/
def State.freeStream (s : State) (n : StreamNo) : State :=
  s.onStream n fun t => { t with desc := none, current := idleOctet, frameDue := false }

/-- The writes before the exchange of a close (06 R120). -/
def StreamDesc.closeWrites (d : StreamDesc) : List Write :=
  match d.status, d.dir with
  | .opened, .tap _ =>
    (if d.position % 4 = 0 then []
      else [.word (d.halfOffset d.half + BitVec.ofNat 20 (d.position - d.position % 4)) (wordOfList idleOctet d.buffer)]) ++
    [.word (d.block + 4) (statusWord1 d.position (some d.half))]
  | .opened, .feed => [.word (d.block + 4) (statusWord1 d.position (some d.half))]
  | .stalled, _ | .muted, _ => [.word (d.block + 4) (statusWord1 (if d.lastHanded.isSome then d.len else 0) d.lastHanded)]
  | .fault, _ => []

/-- Status word 0 in the exchange of a close (06 R120). -/
def StreamDesc.closeWord (d : StreamDesc) (w : Word) : Word :=
  let w := withStatus closedCode w
  if d.status = .opened then withOwner d.half ownerHost w else w

/-- A close that has passed its checks (06 R120, R121). -/
def State.closeDesc (s : State) (n : StreamNo) (d : StreamDesc) : OutcomeCode × Octet × State :=
  if d.status = .fault then (.done, d.status.code, s.freeStream n)
  else
    let r := s.writes d.closeWrites
    if r.1 < d.closeWrites.length then (.busError, d.status.code, (r.2.freeStream n).raise .bus)
    else match r.2.exchange d.block d.closeWord with
      | (none, s) => (.busError, d.status.code, (s.freeStream n).raise .bus)
      | (some _, s) => (.done, d.status.code, s.freeStream n)

/-- CLOSE_STREAM at take. Every earlier access of the stream ends first, and so does a handover that is due
(06 R120; log 22). Where one of these meets a bus error, the stream enters FAULT with STREAM and BUS (R122), and the close then
goes on as that of a stream in FAULT, DONE with detail 5 (R121): the model's choice (log 54). -/
def State.closeStream (s : State) (r : WorkRecord) : OutcomeCode × Octet × State :=
  if h : (r.byte 0 0).toNat < 16 then
    let n : StreamNo := ⟨(r.byte 0 0).toNat, h⟩
    if s.streams[n].desc.isNone then (.noStream, 0, s)
    else if 0 < s.streams[n].refs then (.inUse, 0, s)
    else
      let s := ((s.drain n).handover n).drain n
      match s.streams[n].desc with
      | none => (.noStream, 0, s)
      | some d => s.closeDesc n d
  else (.badField, 0, s)

/-! ### The edge -/

/-- An access met by a frame boundary before it has ended. -/
def StreamAccess.late : StreamAccess → StreamAccess
  | .resume _ => .resume true
  | .putWord off w => .putWord off w
  | .getWord off index => .getWord off index

/-- The stream at an edge: its frame work is due, and at a block boundary its exchange if it waits. -/
def Stream.edge (t : Stream) (block : Bool) : Stream :=
  { t with
    frameDue := t.desc.isSome
    desc := t.desc.map fun d => { d with
      resumeDue := block && d.status.waits, accesses := d.accesses.map StreamAccess.late } }

end Sys2Proof.Machine
end

