-- ==== Sys2Proof/Machine/Supervision.lean ====
section
/-! DEFINITION. Host supervision: periods, PULSE, the trip, the fallback table, FALLBACK_CONTROL, the supervision word (09). -/

namespace Sys2Proof.Machine

/-! ### Periods (09 R164) -/

/-- A fresh period at this boundary: position 0, FIRST, not bad, index 3; no advance is due any more at this boundary. -/
def Supervision.fresh (v : Supervision) : Supervision :=
  { v with position := 0, phase := .first, bad := false, index := 3, advanceDue := false }

/-- The challenge value advanced by one step of the shift register (09 R168). -/
def advanceQ (sel : Selector) (q : BitVec 4) : BitVec 4 :=
  let new := q.getLsbD 3 ^^ (match sel with | .a => q.getLsbD 2 | .b => q.getLsbD 0)
  q.extractLsb' 0 3 ++ BitVec.ofBool new

/-- A good end (09 R168, R169). -/
def Supervision.goodEnd (v : Supervision) : Supervision :=
  { v.fresh with errorCount := v.errorCount - 1, q := if v.mode = .challenge then advanceQ v.selector v.q else v.q, wordDue := true }

/-- The error count after a bad end (09 R169). -/
def Supervision.risen (v : Supervision) : Nat := min 15 (v.errorCount + 1)

/-- A bad end, its trip apart (09 R168, R169). -/
def Supervision.badEnd (v : Supervision) : Supervision := { v.fresh with errorCount := v.risen, wordDue := true }

/-- The bad end trips: the count rises to the threshold with FALLBACK clear (09 R169). -/
def Supervision.trips (v : Supervision) : Bool :=
  v.risen != v.errorCount && v.risen == v.threshold && !v.fallback

/-- The trip's effects on supervision (09 R170). -/
def Supervision.trip (v : Supervision) : Supervision :=
  let v := { v with tripped := true, fallback := true }
  if v.action = .fallbackAndPulse then { v with resetOut := some v.pulseLength, resetTick := false } else v

/-- FALLBACK is set: the switch is given its overlay order (03 R66). -/
def State.orderOverlay (s : State) : State := s.onSwitch fun w => { w with overlayOrder := true }

/-- A period ends good (09 R168, R169). -/
def State.endGood (s : State) : State :=
  (s.onSupervision Supervision.goodEnd).raiseIf (s.supervision.errorCount != 0) .supervision

/-- A period ends bad, and trips if it is to (09 R168 to R170). -/
def State.endBad (s : State) : State :=
  let v := s.supervision
  let s := s.onSupervision Supervision.badEnd
  let s := if v.trips then (s.onSupervision Supervision.trip).orderOverlay else s
  s.raiseIf (v.risen != v.errorCount) .supervision

/-- PERIOD_ADVANCE where it turns neither phase nor period (09 R164; log 14). -/
def Supervision.advance (v : Supervision) : Supervision :=
  if v.advanceDue ∧ v.position + 1 ≠ v.period * 32 ∧ v.position + 1 < v.period * 64 then
    { v with position := v.position + 1, advanceDue := false }
  else v

/-- PHASE_SECOND: the advance that reaches W × 32 (09 R164). -/
def Supervision.turnPhase (v : Supervision) : Supervision :=
  if v.advanceDue ∧ v.position + 1 = v.period * 32 then
    { v with position := v.position + 1, phase := .second, wordDue := true, advanceDue := false }
  else v

/-- PERIOD_END: the advance that would reach W × 64 (09 R164, R168). -/
def State.periodEnd (s : State) : State :=
  if s.supervision.advanceDue ∧ s.supervision.period * 64 ≤ s.supervision.position + 1 then s.endBad else s

/-! ### RESET_OUT (09 R170) -/

/-- At a block boundary the blocks remaining fall by 1; the fall to 0 is RESET_OUT_RELEASE's (log 14). -/
def Supervision.tickReset (v : Supervision) : Supervision :=
  match v.resetOut with
  | some n => if v.resetTick = true ∧ 2 ≤ n then { v with resetOut := some (n - 1), resetTick := false } else v
  | none => v

/-- RESET_OUT_RELEASE: the blocks remaining reach 0. -/
def Supervision.releaseReset (v : Supervision) : Supervision :=
  match v.resetOut with
  | some n => if v.resetTick = true ∧ n ≤ 1 then { v with resetOut := none, resetTick := false } else v
  | none => v

/-! ### SUPERVISE (09 R162, R163) -/

/-- The checks of R162: the detail of the first that fails. -/
def superviseFault (r : WorkRecord) : Option Octet :=
  let w := (r.byte 0 1).toNat
  if 2 < (r.byte 0 0).toNat then some 1
  else if r.byte 0 0 = 0 then none
  else if w % 2 ≠ 0 ∨ w < 2 ∨ 254 < w then some 2
  else if (r.byte 0 2).toNat < 1 ∨ 15 < (r.byte 0 2).toNat then some 3
  else if r.byte 1 0 ≠ 1 ∧ r.byte 1 0 ≠ 2 then some 4
  else if r.byte 1 0 = 2 ∧ ((r.byte 1 1).toNat < 1 ∨ 15 < (r.byte 1 1).toNat) then some 5
  else if (r.byte 1 2).toNat < 1 ∨ 15 < (r.byte 1 2).toNat then some 6
  else if 1 < (r.byte 1 3).toNat then some 7
  else none

/-- Supervision as a SUPERVISE with good fields leaves it (09 R163). -/
def Supervision.configured (v : Supervision) (r : WorkRecord) : Supervision :=
  let v := { v.fresh with errorCount := 0, wordDue := true }
  if r.byte 0 0 = 0 then { v with mode := .off }
  else
    { v with
      mode := if r.byte 0 0 = 1 then .window else .challenge
      period := (r.byte 0 1).toNat
      threshold := (r.byte 0 2).toNat
      action := if r.byte 1 0 = 2 then .fallbackAndPulse else .fallback
      pulseLength := if r.byte 1 0 = 2 then (r.byte 1 1).toNat else v.pulseLength
      q := (r.byte 1 2).setWidth 4
      selector := if r.byte 1 3 = 1 then .b else .a }

/-- SUPERVISE at take. -/
def State.supervise (s : State) (r : WorkRecord) : OutcomeCode × Octet × State :=
  match superviseFault r with
  | some detail => (.badField, detail, s)
  | none => (.done, octet s.supervision.errorCount, s.onSupervision fun v => v.configured r)

/-! ### PULSE (09 R165 to R167) -/

/-- Response Rk of challenge value Q (09 R167). -/
def response (q : BitVec 4) (k : Nat) : Octet := (q + BitVec.ofNat 4 k) ++ (~~~q ^^^ BitVec.ofNat 4 k)

inductive PulseJudgement where
  /-- GOOD, and the period ends good. -/
  | goodEnd
  /-- GOOD, and the expected response index falls. -/
  | goodStep
  | error
  | ignored
  deriving DecidableEq, Repr

/-- The verdict on a PULSE in a mode that is not OFF. -/
def Supervision.judgePulse (v : Supervision) (resp : Octet) : PulseJudgement :=
  if v.bad then .ignored
  else if v.mode = .window then (if v.phase = .second then .goodEnd else .error)
  else match v.phase with
    | .first => if v.index ≠ 0 ∧ resp = response v.q v.index then .goodStep else .error
    | .second => if v.index = 0 ∧ resp = response v.q 0 then .goodEnd else .error

/-- PULSE at take. -/
def State.pulse (s : State) (r : WorkRecord) : OutcomeCode × Octet × State :=
  if s.supervision.mode = .off then (.state, 0, s)
  else match s.supervision.judgePulse (r.byte 0 0) with
    | .goodEnd => (.done, 1, s.endGood)
    | .goodStep => (.done, 1, s.onSupervision fun v => { v with index := v.index - 1, wordDue := true })
    | .error => (.done, 2, s.onSupervision fun v => { v with bad := true, wordDue := true })
    | .ignored => (.done, 3, s)

/-! ### SET_FALLBACK (09 R171) -/

/-- Checks 4 to 8 of R171 on entries numbered from `k`, after the entries in `before`. -/
def checkFallback : Nat → List FallbackEntry → List Word → Except (OutcomeCode × Octet) (List FallbackEntry)
  | _, before, [] => .ok before
  | k, before, w :: ws =>
    match parseFallback w with
    | .error o => .error (o, octet k)
    | .ok e =>
      if before.any fun b => b.target == e.target then .error (.duplicate, octet k)
      else checkFallback (k + 1) (before ++ [e]) ws

/-- SET_FALLBACK at take. -/
def State.setFallback (s : State) (r : WorkRecord) : OutcomeCode × Octet × State :=
  let count := (r.byte 0 0).toNat
  if s.supervision.fallback then (.state, 0, s)
  else if 32 < count then (.badField, 0, s)
  else if r.body.length < 1 + count then (.badLength, 0, s)
  else match checkFallback 1 [] ((List.range count).map fun k => r.word (1 + k)) with
    | .error (o, detail) => (o, detail, s)
    | .ok t => (.done, octet count, s.onSupervision fun v => { v with table := t })

/-! ### FALLBACK_CONTROL (09 R172 to R174) -/

/-- ENTER at take. -/
def State.enterFallback (s : State) : OutcomeCode × Octet × State :=
  if s.supervision.fallback then (.state, 0, s)
  else
    (.done, octet s.supervision.table.length,
      ((s.onSupervision fun v => { v with fallback := true, wordDue := true }).orderOverlay).raise .supervision)

/-- The recovery's effects on supervision (09 R174). -/
def Supervision.recovered (v : Supervision) : Supervision :=
  let v := { v with fallback := false, errorCount := 0, wordDue := true }
  if v.mode = .off then v else v.fresh

/-- The switch tells supervision that recovery is carried out. -/
def State.recoverSupervision (s : State) : State := (s.onSupervision Supervision.recovered).raise .supervision

/-! ### The supervision word (09 R175) -/

/-- SUPERVISION_WORD_WRITE: the content as it stands, once the header is written; a bus error halts nothing. -/
def State.supervisionWordWrite (s : State) : State :=
  if s.supervision.wordDue ∧ s.walker.headerWritten then
    let s := s.onSupervision fun v => { v with wordDue := false }
    let r := s.writeWord 0x0C s.supervision.word
    r.2.raiseIf (!r.1) .bus
  else s

end Sys2Proof.Machine
end

