-- ==== Sys2Proof/Machine/Switch.lean ====
section
/-! DEFINITION. The slot switch: changes due at a boundary, the fallback overlay and its recovery, forming of octets, QUERY_MAP (03). -/

namespace Sys2Proof.Machine

/-! ### Changes of one entry with its stream references (03 R60, R74) -/

/-- The loss of the stream that a source names. -/
def State.sourceLoss (s : State) (src : Source) : State :=
  match src.stream? with
  | some n => s.refLoss n
  | none => s

/-- The gain of the stream that a source names. -/
def State.sourceGain (s : State) (src : Source) : State :=
  match src.stream? with
  | some n => s.refGain n
  | none => s

/-- An entry replaced, with the reference it loses and the one it gains. -/
def State.replaceEntry (s : State) (k : SlotIndex) (e : RouteEntry) : State :=
  ((s.sourceLoss s.switch.map[k].source).sourceGain e.source).onSwitch fun w => { w with map := w.map.set k e }

/-! ### Edit lists (03 R56 to R60) -/

/-- The edit names a stream that is an open FEED, if it names one (03 R56, check 7). -/
def State.editStreamOk (s : State) (e : Edit) : Bool :=
  match e.source.stream? with
  | some n => s.isOpenFeed n
  | none => true

/-- Check 8 fails: a fallback mark, or a NORMAL edit of an URGENT entry (03 R57). -/
def RouteEntry.protects (t : RouteEntry) (e : Edit) : Bool := t.marked || (t.cls == .urgent && e.cls == .normal)

/-- Check 9 fails: another tag's entry without override (03 R57). -/
def RouteEntry.occupies (t : RouteEntry) (e : Edit) : Bool := t.tag != 0 && t.tag != e.tag && !e.override

/-- The nine checks of R56 on one edit, after the targets of the edits before it. -/
def State.judgeEdit (s : State) (before : List SlotIndex) (words : Word × Word) : Except OutcomeCode Edit :=
  match parseEdit words with
  | .error o => .error o
  | .ok e =>
    if before.contains e.target then .error .duplicate
    else if !s.editStreamOk e then .error .noStream
    else if s.switch.map[e.target].protects e then .error .isProtected
    else if s.switch.map[e.target].occupies e then .error .occupied
    else .ok e

/-- Edits numbered from `k` validated in order: the first failure with its number, or the list (03 R56, R58). -/
def State.judgeEdits (s : State) : Nat → List SlotIndex → List (Word × Word) → Except (OutcomeCode × Nat) (List Edit)
  | _, _, [] => .ok []
  | k, before, w :: ws =>
    match s.judgeEdit before w with
    | .error o => .error (o, k)
    | .ok e =>
      match s.judgeEdits (k + 1) (e.target :: before) ws with
      | .error f => .error f
      | .ok es => .ok (e :: es)

/-- What an edit writes into its target (03 R59). -/
def Edit.entry (e : Edit) : RouteEntry :=
  if e.put then { source := e.source, tag := e.tag, cls := e.cls, marked := false } else {}

/-- An edit applied (03 R59, R60). -/
def State.applyEdit (s : State) (e : Edit) : State := s.replaceEntry e.target e.entry

/-- An edit list carried out whole, or not at all: outcome and detail (03 R58). -/
def State.applyEditList (s : State) (edits : List (Word × Word)) : OutcomeCode × Octet × State :=
  match s.judgeEdits 1 [] edits with
  | .error (o, k) => (o, octet k, s)
  | .ok es => (.done, octet edits.length, es.foldl State.applyEdit s)

/-! ### DROP_TAG (03 R62) -/

/-- An entry that a DROP_TAG drops. -/
def RouteEntry.dropped (tag : Octet) (e : RouteEntry) : Bool := e.tag == tag && !e.marked

/-- The slots whose entries a DROP_TAG drops. -/
def State.tagged (s : State) (tag : Octet) : List SlotIndex :=
  (List.finRange 120).filter fun k => s.switch.map[k].dropped tag

/-- A DROP_TAG carried out. -/
def State.applyDropTag (s : State) (tag : Octet) : OutcomeCode × Octet × State :=
  let ks := s.tagged tag
  (.done, octet ks.length, ks.foldl (fun s k => s.replaceEntry k {}) s)

/-! ### The overlay and its recovery (03 R66, R70) -/

/-- One entry of the fallback table laid over the map; no reference is reported. -/
def Switch.overlayEntry (w : Switch) (e : FallbackEntry) : Switch :=
  { w with
    displaced := w.displaced ++ [{ target := e.target, entry := w.map[e.target] }]
    map := w.map.set e.target { source := e.source, tag := 0, cls := .urgent, marked := true } }

/-- OVERLAY: the table in its order, and the order is cleared (03 R66). -/
def State.overlay (s : State) : State :=
  let table := s.supervision.table
  s.onSwitch fun w => { table.foldl Switch.overlayEntry w with overlayOrder := false, overlayDue := false }

/-- A displaced route written back, its mark clear. -/
def Switch.restoreEntry (w : Switch) (d : Displaced) : Switch :=
  { w with map := w.map.set d.target { d.entry with marked := false } }

/-- The displaced list written back and emptied; an overlay still ordered is cancelled (03 R70, R73). -/
def Switch.restore (w : Switch) : Switch :=
  { w.displaced.foldl Switch.restoreEntry w with displaced := [], overlayOrder := false, overlayDue := false }

/-- RECOVERY at the switch and at supervision. -/
def State.applyRecovery (s : State) : OutcomeCode × Octet × State :=
  let n := s.switch.displaced.length
  (.done, octet n, (s.onSwitch Switch.restore).recoverSupervision)

/-! ### The changes due at a boundary (03 R53) -/

/-- A held change carried out: outcome, detail, state. -/
def State.applyChange (s : State) : Change → OutcomeCode × Octet × State
  | .editList edits => s.applyEditList edits
  | .dropTag tag => s.applyDropTag tag
  | .recover => s.applyRecovery

/-- The record in the pending-change slot, when it is due: carried out, the slot emptied, the retirement asked for. -/
def State.heldChange (s : State) : State :=
  if s.switch.changeDue then
    match s.switch.slot with
    | none => s.onSwitch fun w => { w with changeDue := false }
    | some p =>
      let r := s.applyChange p.change
      (r.2.2.onSwitch fun w => { w with slot := none, changeDue := false }).requestRetire p.held r.1 r.2.1
  else s

/-- The overlay, when it is due and has not been cancelled. -/
def State.overlayIfDue (s : State) : State := if s.switch.overlayDue then s.overlay else s

/-- The changes due at this boundary, in either order (03 R71 to R73). R64 lets a take and each change come in either order; the
model's choice is that both changes due at one boundary are one piece of work, so that no take, a QUERY_MAP's in particular,
falls between them (log 52). -/
def State.changes (s : State) (overlayFirst : Bool) : State :=
  if overlayFirst then s.overlayIfDue.heldChange else s.heldChange.overlayIfDue

/-! ### Forming octets (03 R49 to R52) -/

/-- The source octet of a source, as held for the frame just ended. -/
def Switch.sourceOctet (w : Switch) : Source → Octet
  | .none => idleOctet
  | .slot k => w.srcSlots[k]
  | .stream n => w.srcStreams[n]
  | .scan g => w.srcScans[g]
  | .const v => v

/-- FORM_OCTETS: the 120 octets of the frame that begins. -/
def Switch.form (w : Switch) : Switch :=
  { w with out := tabulate 120 fun k => w.sourceOctet w.map[k].source, formDue := false }

/-- The switch's first two stages, once a boundary (03 R49), as one piece of work: a take comes before or after both changes, never
between a held change and the overlay (the model's choice; log 52). -/
def State.formWork (s : State) (overlayFirst : Bool) : State :=
  if s.switch.formDue then (s.changes overlayFirst).onSwitch Switch.form else s

/-- A group as the reading of its output meets it: a scan step still due at this boundary settles the output of the frame, and
the reading has that value without making the step. A take that comes between the two puts the reading right
(`State.readBeforeTake`; 05 R90, R98; log 47). A take that comes before reading and step can choose a member that the step at
once leaves (a dwell of 1): R98 gives the frame the member that the take chose, R90 the member that the step leaves current. The
model's choice is R90's, in whichever order reading and step come (log 51). -/
def State.groupRead (s : State) (g : GroupNo) : ScanGroup :=
  if s.timer.scanDue then s.groups[g].step s.activity else s.groups[g]

/-- The source octets replaced with those of the frame that begins (03 R49). -/
def State.readSources (s : State) : State :=
  let slots := tabulate 120 fun k => s.inboundOctet k
  let streams := tabulate 16 fun n => s.streams[n].current
  let scans := tabulate 8 fun g => s.groupOutput (s.groupRead g)
  let from' := tabulate 8 fun g => (s.groupRead g).currentSlot
  let ahead := Vector.replicate 8 s.timer.scanDue
  s.onSwitch fun w => { w with
    srcSlots := slots, srcStreams := streams, srcScans := scans, scanFrom := from', scanAhead := ahead, sourcesDue := false }

/-- The switch's last stage, once a boundary: after its forming and after the streams' frame work, which settles the
octets it reads (06 R114). -/
def State.sourcesWork (s : State) : State :=
  if s.switch.sourcesDue then (allStreams.foldl State.streamWork (s.formWork false)).readSources else s

/-! ### QUERY_MAP (03 R63 to R65) -/

/-- The map image as writes from an offset on. -/
def Switch.imageWrites (w : Switch) (off : Offset) : List Write :=
  (List.finRange 120).map fun k => .word (off + BitVec.ofNat 20 (4 * k.val)) w.map[k].imageWord

/-- The number of entries whose source is not NONE. -/
def Switch.routed (w : Switch) : Nat := (w.map.toList.filter fun e => e.source != .none).length

/-- QUERY_MAP at take. -/
def State.queryMap (s : State) (r : WorkRecord) : OutcomeCode × Octet × State :=
  match areaOffset? (r.word 0) 480 with
  | none => (.badOffset, 0, s)
  | some off =>
    let t := s.writes (s.switch.imageWrites off)
    if t.1 < 120 then (.busError, octet t.1, t.2.raise .bus)
    else (.done, octet s.switch.routed, t.2)

end Sys2Proof.Machine
end

