-- ==== Sys2Proof/Machine/Walker.lean ====
section
/-! DEFINITION. The chain walker: halting, looks, the owners' room, the take and its end (01). -/

namespace Sys2Proof.Machine

/-! ### Halting (01 R17 to R20) -/

/-- Entry into HALTED: the walk is over, and CHAIN attention is raised. -/
def State.enterHalted (s : State) (reason : HaltReason) : State :=
  (s.onWalker fun w => { w with status := .halted, haltReason := reason, walk := .none, haltPending := none,
                                stopping := false, walkDue := false }).raise .chain

/-- A halting event: nothing more while HALTED; after the take while one is in progress; else at once (01 R17, R20). Of two
halting events within one take the first gives the halt reason: the model's choice (log 41). One that comes after a look has
found a record and before its take halts at once, and the record is not taken: the model's choice (log 10). -/
def State.haltEvent (s : State) (reason : HaltReason) : State :=
  if s.walker.status = .halted then s
  else if s.walker.walk = .taking then s.onWalker fun w => { w with haltPending := w.haltPending <|> some reason }
  else s.enterHalted reason

/-- A bus error of the walker or of the retire path (01 R18, R19). -/
def State.busHalt (s : State) : State := (s.raise .bus).haltEvent .bus

/-! ### Room (01 R10) -/

/-- The action of a FALLBACK_CONTROL is `code`. -/
def WorkRecord.action (r : WorkRecord) (code : Octet) : Bool := r.byte 0 0 == code

/-- The outbound queue to which a message for a node resolves is full. -/
def State.routeFull (s : State) (dest : Octet) : Bool :=
  match s.route dest with
  | .out p => !s.queueFree p
  | .atHome | .noRoute | .linkDown => false

/-- A message for a node would be claimed onto a port. -/
def State.routesOut (s : State) (dest : Octet) : Bool :=
  match s.route dest with
  | .out _ => true
  | .atHome | .noRoute | .linkDown => false

/-- The owner would keep the record, and the slot, the pool or the list that would hold it is full. The walker's takes alone
fill these (01 R10; 03 R54; 08 R151, R156). -/
def State.collectionFull (s : State) (r : WorkRecord) : Bool :=
  match kindOf r.kind with
  | some .editMap => (editMapFault r).isNone && s.switch.slot.isSome
  | some .dropTag => r.byte 0 0 != 0 && s.switch.slot.isSome
  | some .fallbackControl => r.action 2 && s.supervision.fallback && s.switch.slot.isSome
  | some .listen => decide (8 ≤ s.router.listens.length)
  | some .probe => (probeFault r).isNone && s.routesOut (r.byte 0 0) && decide (4 ≤ s.router.probes.length)
  | _ => false

/-- The owner would keep the record, and the outbound queue that its message is to enter is full (01 R10; 07 R128; 08 R155). -/
def State.outboundFull (s : State) (r : WorkRecord) : Bool :=
  match kindOf r.kind with
  | some .send => (sendFault r).isNone && s.routeFull (r.byte 0 0)
  | some .probe => (probeFault r).isNone && s.routeFull (r.byte 0 0)
  | _ => false

/-- The owner would keep the record, and has no room for it (01 R10). -/
def State.ownerFull (s : State) (r : WorkRecord) : Bool := s.collectionFull r || s.outboundFull r

/-! ### A look (01 R6 to R10) -/

/-- The walk ends with a walker state. -/
def State.endWalk (s : State) (status : WalkerStatus) : State :=
  s.onWalker fun w => { w with status := status, walk := .none }

/-- A record becomes the cursor: it is taken, and its take is in progress (01 R11; log 9). -/
def State.startTake (s : State) (off : Offset) : State :=
  s.onWalker fun w => { w with cursor := some off, chainStarted := true, status := .idle, walk := .taking }

/-- The walker's take asks for the retirement of its record, and waits for it (01 R11). -/
def State.endTake (s : State) (h : Held) (outcome : OutcomeCode) (detail : Octet) : State :=
  s.addRequest (.retire h outcome detail [] true)

/-- The walker's take asks for the HELD write of its record, and waits for it (01 R11; log 8). -/
def State.keepTake (s : State) (h : Held) : State := s.addRequest (.held h.offset true)

/-- The word that names the candidate: chain start, or the cursor's link (01 R6; log 36). -/
def Walker.linkOffset (w : Walker) : Offset :=
  match w.chainStarted, w.cursor with
  | true, some c => c + 4
  | _, _ => 0

/-- A POSTED candidate that has passed the common checks: its body is read, its owner asked for room (01 R9, R10). The question
about an outbound queue is left to the take, whose claim is one event with it (07 R128; log 7). -/
def State.lookBody (s : State) (off : Offset) (header : Word) : State :=
  match s.readWords (wordByte header 3).toNat (off + 16) with
  | (none, s) => (s.endWalk .idle).busHalt
  | (some body, s) =>
    let r : WorkRecord := { held := heldOf off header, kind := wordByte header 1, body }
    if s.collectionFull r then s.endWalk .blocked
    else s.onWalker fun w => { w with status := .idle, walk := .found r }

/-- A candidate with a good offset (01 R8, R9). -/
def State.lookRecord (s : State) (off : Offset) : State :=
  match s.readWord off with
  | (none, s) => (s.endWalk .idle).busHalt
  | (some header, s) =>
    if wordByte header 0 ≠ statePosted then s.endWalk .waiting
    else
      match s.readWords 3 (off + 4) with
      | (none, s) => (s.endWalk .idle).busHalt
      | (some _, s) =>
        match commonChecks off header with
        | .error o => (s.startTake off).endTake (heldOf off header) o 0
        | .ok _ => s.lookBody off header

/-- LOOK (01 R6, R7). -/
def State.look (s : State) : State :=
  match s.readWord s.walker.linkOffset with
  | (none, s) => (s.endWalk .idle).busHalt
  | (some link, s) =>
    if link = 0 then s.endWalk .idle
    else match goodOffset? link with
      | none => (s.endWalk .idle).haltEvent .badLink
      | some off => s.lookRecord off

/-- The walker may make a walk: RUN is 1, it is not HALTED, and no walk is in progress (01 R6). -/
def State.canWalk (s : State) : Bool := s.regs.run && s.walker.status != .halted && s.walker.walk == .none

/-- WALK: the walk of this boundary begins with its first look (01 R6). -/
def State.walkWork (s : State) : State :=
  if s.walker.walkDue then
    let s := s.onWalker fun w => { w with walkDue := false }
    if s.canWalk then (s.onWalker fun w => { w with takes := 0 }).look else s
  else s

/-! ### The end of a take (01 R11, R12, R17, R22) -/

/-- The cursor offset word is written; a bus error halts the walker after the take (01 R11, R19). -/
def State.writeCursor (s : State) : State :=
  match s.walker.cursor with
  | none => s
  | some c =>
    let r := s.writeWord 0x04 (c.setWidth 32)
    if r.1 then r.2 else r.2.busHalt

/-- The take is complete: a halt or a stop that has come during it ends the walk, and so does the fourth take;
else the walker looks again. -/
def State.finishTake (s : State) : State :=
  let s := s.writeCursor
  let w := s.walker
  let s := s.onWalker fun w => { w with status := .idle, walk := .none, takes := w.takes + 1, haltPending := none, stopping := false }
  match w.haltPending with
  | some reason => s.enterHalted reason
  | none =>
    if w.stopping ∨ ¬ s.regs.run then s.endWalk (if s.regs.run then .idle else .stopped)
    else if w.takes + 1 < 4 then s.look
    else s

/-! ### Taking the record found -/

/-- The commands of the takes: the record found, if it is the command's, is handed to its owner, if the owner has room for it:
the question about an outbound queue and the claim that follows are this one event (01 R10, R11; 07 R128; log 7). -/
def State.takeWith (s : State) (mine : WorkRecord → Bool) (owner : State → WorkRecord → State) : State :=
  match s.walker.walk with
  | .found r =>
    if mine r then
      if s.ownerFull r then s.endWalk .blocked
      else owner (s.startTake r.held.offset) r
    else s
  | .none | .taking => s

/-- An owner that ends the record at take. -/
def ending (own : State → WorkRecord → OutcomeCode × Octet × State) (s : State) (r : WorkRecord) : State :=
  let a := own s r
  a.2.2.endTake r.held a.1 a.2.1

end Sys2Proof.Machine
end

