-- ==== Sys2Proof/Machine/Retire.lean ====
section
/-! DEFINITION. The retire path: HELD writes and retirements (01 1.5). -/

namespace Sys2Proof.Machine

/-- The request at the head has been served. -/
def State.dropRequest (s : State) : State := { s with retire := s.retire.tail }

/-- The walker's take goes on, if it has waited for this request. -/
def State.resumeTake (s : State) (awaited : Bool) : State :=
  if awaited ∧ s.walker.walk = .taking then s.finishTake else s

/-- HELD_WRITE: the state byte alone (01 R15, R16, R18). -/
def State.serveHeld (s : State) : State :=
  match s.retire with
  | .held off awaited :: _ =>
    let r := s.dropRequest.writeByte off stateHeld
    (if r.1 then r.2 else r.2.busHalt).resumeTake awaited
  | _ => s

/-- The retire count after the next retirement (01 R16). -/
def State.nextCount (s : State) : Word := s.walker.retireCount + 1

/-- The four writes of a retirement, in order (01 R16). -/
def retireWrites (count : Word) (h : Held) (outcome : OutcomeCode) (detail : Octet) (results : List (Nat × Word)) : List Write :=
  results.map (fun e => Write.word (h.offset + 16 + BitVec.ofNat 20 (4 * e.1)) e.2) ++
  [ .word (h.offset + 12) (wordOf outcome.code detail (wordByte count 0) (wordByte count 1)),
    .byte h.offset outcome.stateByte,
    .word 0x08 count ]

/-- What follows a retirement whose writes have all been made (01 R16, R17). -/
def State.retired (s : State) (h : Held) (outcome : OutcomeCode) : State :=
  let s := (s.onWalker fun w => { w with retireCount := w.retireCount + 1 }).raiseIf h.notify .retire
  if outcome ≠ .done ∧ h.haltOnFail then s.haltEvent .recordFailed else s

/-- RETIREMENT of the request at the head (01 R16 to R18). -/
def State.serveRetirement (s : State) : State :=
  match s.retire with
  | .retire h outcome detail results awaited :: _ =>
    let writes := retireWrites s.nextCount h outcome detail results
    let r := s.dropRequest.writes writes
    (if r.1 = writes.length then r.2.retired h outcome else r.2.busHalt).resumeTake awaited
  | _ => s

end Sys2Proof.Machine
end

