-- ==== Sys2Proof/Machine/Takes.lean ====
section
/-! DEFINITION. The takes: one command for each kind of record, and for each action of SCAN_CONTROL and FALLBACK_CONTROL
(01 R11, R14; 02 to 09). -/

namespace Sys2Proof.Machine

/-! ### Which records a command takes -/

/-- The records of a kind. -/
def ofKind (k : Kind) (r : WorkRecord) : Bool := r.isKind k

/-- The SCAN_CONTROL records of an action, byte 1 of word 0; an action code outside the table belongs to any of the
four commands (log 24). -/
def scanAction (code : Octet) (r : WorkRecord) : Bool :=
  r.isKind .scanControl && (r.byte 0 1 == code || r.byte 0 1 == 0 || decide (4 < (r.byte 0 1).toNat))

/-- The FALLBACK_CONTROL records of an action; an action code outside the table belongs to either command (log 24). -/
def fallbackAction (code : Octet) (r : WorkRecord) : Bool :=
  r.isKind .fallbackControl && (r.byte 0 0 == code || (r.byte 0 0 != 1 && r.byte 0 0 != 2))

/-! ### Owners that keep or end -/

/-- The pending-change slot takes a record in, and the HELD write is asked for (03 R54). -/
def State.keepChange (s : State) (r : WorkRecord) (c : Change) : State :=
  (s.keepTake r.held).onSwitch fun w => { w with slot := some { held := r.held, change := c } }

/-- EDIT_MAP at take (03 R55). -/
def State.takeEditMap (s : State) (r : WorkRecord) : State :=
  match editMapFault r with
  | some o => s.endTake r.held o 0
  | none => s.keepChange r (.editList (r.edits (r.byte 0 0).toNat))

/-- DROP_TAG at take (03 R61). -/
def State.takeDropTag (s : State) (r : WorkRecord) : State :=
  if r.byte 0 0 = 0 then s.endTake r.held .badField 0 else s.keepChange r (.dropTag (r.byte 0 0))

/-- FALLBACK_CONTROL ENTER at take (09 R172, R173). -/
def State.takeEnter (s : State) (r : WorkRecord) : State :=
  if r.action 1 then ending (fun s _ => s.enterFallback) s r else s.endTake r.held .badField 0

/-- FALLBACK_CONTROL RECOVER at take (09 R172, R174). -/
def State.takeRecover (s : State) (r : WorkRecord) : State :=
  if r.action 2 then
    if s.supervision.fallback then s.keepChange r .recover else s.endTake r.held .state 0
  else s.endTake r.held .badField 0

/-! ### SET_NODE (08 R145, R146) -/

/-- Direction entries from bit position `i` on: the first bad one with its position plus 1, or the entries. -/
def parseDirections (r : WorkRecord) : Nat → Nat → Except Octet (List (Option Port))
  | 0, _ => .ok []
  | k + 1, i =>
    match parseDirection (r.directionByte i) with
    | .error _ => .error (octet (i + 1))
    | .ok e =>
      match parseDirections r k (i + 1) with
      | .error d => .error d
      | .ok es => .ok (e :: es)

/-- SET_NODE at take. -/
def State.setNode (s : State) (r : WorkRecord) : OutcomeCode × Octet × State :=
  let node := r.byte 0 0
  if node = 0 ∨ node = 255 then (.badField, 0, s)
  else match parseDirections r 8 0 with
    | .error d => (.badField, d, s)
    | .ok es =>
      if node ≠ s.router.node ∧ allPorts.any (fun p => s.lines[p].line == .linked) then (.state, 0, s)
      else
        (.done, s.router.node,
          s.onRouter fun t => { t with node := node, table := tabulate 8 fun i => es.getD i.val none })

/-! ### SEND (08 R154, R155) -/

/-- The DATA message that a SEND asks for. -/
def State.sendMessage (s : State) (r : WorkRecord) : Message :=
  { dest := r.byte 0 0, source := s.router.node, hop := (r.byte 0 1).setWidth 4, kind := .data,
    payload := r.payload (r.byte 0 3).toNat }

/-- SEND at take; the walker has asked for room. -/
def State.takeSend (s : State) (r : WorkRecord) : State :=
  match sendFault r with
  | some o => s.endTake r.held o 0
  | none =>
    let m := s.sendMessage r
    match s.route m.dest with
    | .atHome =>
      match s.deliver m 0xFF with
      | some s => s.endTake r.held .done (octet m.size)
      | none => s.endTake r.held .noListener 0
    | .noRoute => s.endTake r.held .noRoute 0
    | .linkDown => s.endTake r.held .linkDown 0
    | .out p => (s.keepTake r.held).enqueue p { msg := m, origin := .send r.held }

/-! ### LISTEN and RECALL (08 R151, R153) -/

/-- LISTEN at take: it joins the tail of the pool. -/
def State.takeListen (s : State) (r : WorkRecord) : State :=
  (s.keepTake r.held).onRouter fun t => { t with listens := t.listens ++ [r.held] }

/-- RECALL at take: the pool is retired from the oldest, then the RECALL. -/
def State.takeRecall (s : State) (r : WorkRecord) : State :=
  let pool := s.router.listens
  let s := s.onRouter fun t => { t with listens := [] }
  (pool.foldl (fun s h => s.requestRetire h .recalled 0) s).endTake r.held .done (octet pool.length)

/-! ### PROBE (08 R156) -/

/-- The PROBE message that a record asks for. -/
def State.probeMessage (s : State) (r : WorkRecord) : Message :=
  { dest := r.byte 0 0, source := s.router.node, hop := 15, kind := .probe, payload := [r.byte 0 1] }

/-- The entry of a kept PROBE. -/
def probeEntry (r : WorkRecord) : ProbeEntry :=
  { held := r.held, target := r.byte 0 0, serial := r.byte 0 1, blocks := (r.byte 0 2).toNat }

/-- PROBE at take; the walker has asked for room. A PROBE of the own node is retired DONE and makes no PROBE_REPLY that an older
PROBE of the same target and serial could match: the model's choice (log 45). -/
def State.takeProbe (s : State) (r : WorkRecord) : State :=
  match probeFault r with
  | some o => s.endTake r.held o 0
  | none =>
    let m := s.probeMessage r
    match s.route m.dest with
    | .atHome => s.endTake r.held .done 0
    | .noRoute => s.endTake r.held .noRoute 0
    | .linkDown => s.endTake r.held .linkDown 0
    | .out p =>
      ((s.keepTake r.held).enqueue p { msg := m, origin := .router }).onRouter fun t =>
        { t with probes := t.probes ++ [probeEntry r] }

/-! ### The commands -/

/-- NOP (01 R14). -/
def execNop (s : State) : Host.Outcome State Fault Refusal :=
  whileReleased s fun s => s.takeWith (ofKind .nop) (ending fun s _ => (.done, 0, s))

/-- PORT_SETUP (02 R35, R36). -/
def execPortSetup (s : State) : Host.Outcome State Fault Refusal :=
  whileReleased s fun s => s.takeWith (ofKind .portSetup) (ending State.portSetup)

/-- SET_NODE (08 R145, R146). -/
def execSetNode (s : State) : Host.Outcome State Fault Refusal :=
  whileReleased s fun s => s.takeWith (ofKind .setNode) (ending State.setNode)

/-- EDIT_MAP (03 R55). -/
def execEditMap (s : State) : Host.Outcome State Fault Refusal :=
  whileReleased s fun s => s.takeWith (ofKind .editMap) State.takeEditMap

/-- DROP_TAG (03 R61). -/
def execDropTag (s : State) : Host.Outcome State Fault Refusal :=
  whileReleased s fun s => s.takeWith (ofKind .dropTag) State.takeDropTag

/-- QUERY_MAP (03 R64). -/
def execQueryMap (bus : List BusCycle) (s : State) : Host.Outcome State Fault Refusal :=
  whileReleasedBus s bus fun s => s.takeWith (ofKind .queryMap) (ending State.queryMap)

/-- SET_ACTIVITY (04 R86, R87). -/
def execSetActivity (s : State) : Host.Outcome State Fault Refusal :=
  whileReleased s fun s => s.takeWith (ofKind .setActivity) (ending State.setActivity)

/-- SET_SCAN (05 R97). -/
def execSetScan (s : State) : Host.Outcome State Fault Refusal :=
  whileReleased s fun s => s.takeWith (ofKind .setScan) (ending State.setScan)

/-- SCAN_CONTROL with action HOLD (05 R99, R100). -/
def execScanControlHold (s : State) : Host.Outcome State Fault Refusal :=
  whileReleased s fun s => s.takeWith (scanAction 1) (ending State.scanControl)

/-- SCAN_CONTROL with action RELEASE (05 R99, R100). -/
def execScanControlRelease (s : State) : Host.Outcome State Fault Refusal :=
  whileReleased s fun s => s.takeWith (scanAction 2) (ending State.scanControl)

/-- SCAN_CONTROL with action STEP (05 R99, R101). -/
def execScanControlStep (s : State) : Host.Outcome State Fault Refusal :=
  whileReleased s fun s => s.takeWith (scanAction 3) (ending State.scanControl)

/-- SCAN_CONTROL with action SELECT (05 R99, R102). -/
def execScanControlSelect (s : State) : Host.Outcome State Fault Refusal :=
  whileReleased s fun s => s.takeWith (scanAction 4) (ending State.scanControl)

/-- OPEN_STREAM (06 R110, R111). -/
def execOpenStream (bus : List BusCycle) (s : State) : Host.Outcome State Fault Refusal :=
  whileReleasedBus s bus fun s => s.takeWith (ofKind .openStream) (ending State.openStream)

/-- CLOSE_STREAM (06 R119 to R121). -/
def execCloseStream (bus : List BusCycle) (s : State) : Host.Outcome State Fault Refusal :=
  whileReleasedBus s bus fun s => s.takeWith (ofKind .closeStream) (ending State.closeStream)

/-- SEND (08 R155). -/
def execSend (s : State) : Host.Outcome State Fault Refusal :=
  whileReleased s fun s => s.takeWith (ofKind .send) State.takeSend

/-- LISTEN (08 R151). -/
def execListen (s : State) : Host.Outcome State Fault Refusal :=
  whileReleased s fun s => s.takeWith (ofKind .listen) State.takeListen

/-- PROBE (08 R156). -/
def execProbe (s : State) : Host.Outcome State Fault Refusal :=
  whileReleased s fun s => s.takeWith (ofKind .probe) State.takeProbe

/-- RECALL (08 R153). -/
def execRecall (s : State) : Host.Outcome State Fault Refusal :=
  whileReleased s fun s => s.takeWith (ofKind .recallPool) State.takeRecall

/-- SUPERVISE (09 R163). -/
def execSupervise (s : State) : Host.Outcome State Fault Refusal :=
  whileReleased s fun s => s.takeWith (ofKind .supervise) (ending State.supervise)

/-- PULSE (09 R165). -/
def execPulse (s : State) : Host.Outcome State Fault Refusal :=
  whileReleased s fun s => s.takeWith (ofKind .pulse) (ending State.pulse)

/-- SET_FALLBACK (09 R171). -/
def execSetFallback (s : State) : Host.Outcome State Fault Refusal :=
  whileReleased s fun s => s.takeWith (ofKind .setFallback) (ending State.setFallback)

/-- ENTER (09 R173). -/
def execEnter (s : State) : Host.Outcome State Fault Refusal :=
  whileReleased s fun s => s.takeWith (fallbackAction 1) State.takeEnter

/-- RECOVER (09 R174). -/
def execRecover (s : State) : Host.Outcome State Fault Refusal :=
  whileReleased s fun s => s.takeWith (fallbackAction 2) State.takeRecover

end Sys2Proof.Machine
end

