-- ==== Sys2Proof/Machine/Registers.lean ====
section
/-! DEFINITION. The register window and the two resets (10; 01 R2, R21 to R23). -/

namespace Sys2Proof.Machine

/-! ### The first RUN after a reset (01 R2, R19, R22) -/

/-- The cursor offset word and the retire count word are written 0; a bus error halts the walker.
Whether the second write is made when the first has failed is free (log 12). -/
def State.headerWrites (s : State) : State :=
  let r1 := s.writeWord 0x04 0
  let s := if r1.1 then r1.2 else r1.2.busHalt
  if r1.1 || Config.secondHeaderWrite then
    let r2 := s.writeWord 0x08 0
    if r2.1 then r2.2 else r2.2.busHalt
  else s

/-- The header-written flag is set, and every owner of header fields has its fields to write (02 R45, 04 R83, 09 R175). -/
def State.headerWritten (s : State) : State :=
  let s := s.onWalker fun w => { w with headerWritten := true }
  let s := allPorts.foldl (fun s p => s.onLine p fun l => { l with statusDue := true }) s
  (s.onActivity fun a => { a with imageDue := true }).onSupervision fun v => { v with wordDue := true }

/-- HEADER_INIT, once in a reset period. -/
def State.headerInit (s : State) : State := if s.walker.headerWritten then s else s.headerWrites.headerWritten

/-! ### CONTROL (10 R178; 01 R21, R22) -/

/-- RUN written 1 while it is 0: the walker leaves STOPPED; the first walk comes at the next boundary. -/
def State.startRun (s : State) : State :=
  let s := s.onRegs fun r => { r with run := true }
  let s := if s.walker.status = .stopped then s.onWalker fun w => { w with status := .idle } else s
  s.headerInit

/-- RUN written 0 while it is 1: a take in progress is finished first; a record found and not yet taken is not taken
(01 R22; log 10, log 11). -/
def State.stopRun (s : State) : State :=
  (s.onRegs fun r => { r with run := false }).onWalker fun w =>
    if w.walk = .taking then { w with stopping := true, walkDue := false }
    else if w.status = .halted then { w with walkDue := false }
    else { w with status := .stopped, walk := .none, walkDue := false }

/-- RUN takes the written value; a write of its present value changes nothing. -/
def State.writeRun (s : State) (value : Bool) : State :=
  if s.regs.run = value then s else if value then s.startRun else s.stopRun

/-- The RESUME action (01 R21). -/
def State.resumeWalker (s : State) : State :=
  if s.walker.status = .halted then
    s.onWalker fun w => { w with status := if s.regs.run then .idle else .stopped, haltReason := .none }
  else s

/-! ### Resets (10 R183) -/

/-- The state that a reset gives every block; memory and the queue of commands stay (01 R23). -/
def State.blocksReset (s : State) : State := { State.reset with pending := s.pending, mem := s.mem }

/-- A power-on reset is taken: PORESET is asserted. -/
def State.powerOn (s : State) : State := s.blocksReset.onRegs fun r => { r with poreset := true }

/-- A soft reset: AREA_BASE and TRIPPED are kept. -/
def State.soft (s : State) : State :=
  let base := s.regs.areaBase
  let tripped := s.supervision.tripped
  (s.blocksReset.onRegs fun r => { r with areaBase := base }).onSupervision fun v => { v with tripped := tripped }

/-- The work of a cut, as far as its bus cycles go; only what it has done to memory outlives the reset (log 6). -/
def State.cutWork (s : State) : Interrupted → State
  | .headerInit => s.headerInit
  | .heldWrite => s.serveHeld
  | .retirement => s.serveRetirement
  | .queryMap => s.takeWith (ofKind .queryMap) (ending State.queryMap)
  | .openStream => s.takeWith (ofKind .openStream) (ending State.openStream)
  | .closeStream => s.takeWith (ofKind .closeStream) (ending State.closeStream)
  | .handover n => s.handover n

/-- Memory after the accesses that a piece of work had made when the reset came. -/
def State.applyCut (s : State) (c : Cut) : State :=
  { s with mem := ((s.setBus { cycles := c.cycles, cut := true }).cutWork c.work).mem }

/-- The cuts named, each piece of work once. -/
def cutsOnce (cuts : List Cut) : List Cut :=
  cuts.foldl (fun done c => if done.any fun d => d.work == c.work then done else done ++ [c]) []

/-- The accesses in progress at a reset stop where they stand (01 R23, 10 R183). While PORESET is asserted none is in progress. -/
def State.applyCuts (s : State) (cuts : List Cut) : State :=
  if s.regs.poreset then s else (cutsOnce cuts).foldl State.applyCut s

/-! ### The commands -/

/-- POWER_ON_RESET (10 R183). -/
def execPowerOnReset (cuts : List Cut) (s : State) : Host.Outcome State Fault Refusal :=
  .next (s.applyCuts cuts).powerOn

/-- PORESET_RELEASE: registers answer and writes take effect from here on (10 R177, R183). -/
def execPoresetRelease (s : State) : Host.Outcome State Fault Refusal :=
  .next (s.onRegs fun r => { r with poreset := false })

/-- SOFT_RESET: a CONTROL write with code 0x3C in its reset field; the rest of the write is ignored (10 R178, R183). -/
def execSoftReset (value : Word) (cuts : List Cut) (s : State) : Host.Outcome State Fault Refusal :=
  whileReleased s fun s => if isResetCode value then (s.applyCuts cuts).soft else s

/-- RUN: a CONTROL write with RESUME 0 (10 R178; 01 R22). -/
def execRun (value : Word) (bus : List BusCycle) (s : State) : Host.Outcome State Fault Refusal :=
  whileReleasedBus s bus fun s =>
    if isResetCode value ∨ value.getLsbD 1 then s else s.writeRun (value.getLsbD 0)

/-- RESUME: a CONTROL write with RESUME 1; RUN is written first (10 R178; 01 R21). The header writes that the first RUN of a reset
period brings come before RESUME acts, so a BUS halt on one of them ends with the same write: the model's choice (log 40). -/
def execResume (value : Word) (bus : List BusCycle) (s : State) : Host.Outcome State Fault Refusal :=
  whileReleasedBus s bus fun s =>
    if isResetCode value ∨ ¬ value.getLsbD 1 then s else (s.writeRun (value.getLsbD 0)).resumeWalker

/-- AREA_BASE: written while RUN is 0, ignored while it is 1 (10 R180). -/
def execAreaBase (value : Word) (s : State) : Host.Outcome State Fault Refusal :=
  whileReleased s fun s =>
    if s.regs.run then s else s.onRegs fun r => { r with areaBase := value.extractLsb' 20 12 }

/-- ATTENTION: the causes written 1 are cleared (10 R181). -/
def execAttention (value : Word) (s : State) : Host.Outcome State Fault Refusal :=
  whileReleased s fun s => s.onRegs fun r => { r with attnPending := r.attnPending &&& ~~~(value.extractLsb' 0 7) }

/-- ATTENTION_ENABLE: the enables are replaced (10 R182). -/
def execAttentionEnable (value : Word) (s : State) : Host.Outcome State Fault Refusal :=
  whileReleased s fun s => s.onRegs fun r => { r with attnEnable := value.extractLsb' 0 7 }

/-- REGISTER_WRITE_IGNORED: no effect, whatever is written (10 R177). -/
def execRegisterWriteIgnored (_offset : BitVec 5) (_value : Word) (_lanes : BitVec 4) (s : State) :
    Host.Outcome State Fault Refusal :=
  whileReleased s fun s => s

/-- HELD_WRITE (01 R11, R15). -/
def execHeldWrite (bus : List BusCycle) (s : State) : Host.Outcome State Fault Refusal :=
  whileReleasedBus s bus State.serveHeld

/-- RETIREMENT (01 R16 to R18). -/
def execRetirement (bus : List BusCycle) (s : State) : Host.Outcome State Fault Refusal :=
  whileReleasedBus s bus State.serveRetirement

end Sys2Proof.Machine
end

