-- ==== Sys2Proof/Machine/Boundary.lean ====
section
/-! DEFINITION. The boundaries: the edge of FREF, the work of a frame and of a block, and the events of ports, monitor,
streams, channels, router and supervision that have commands of their own (02 R27; spec/95). -/

namespace Sys2Proof.Machine

/-! ### Work of a boundary -/

/-- The work of a block boundary: classification, block-boundary exchanges of the streams, PROBE timeouts and RESET_OUT
counted (04 R79, 06 R117, 08 R158, 09 R170). -/
def State.blockWork (s : State) (late : List StreamNo) : State :=
  if s.timer.blockDue then
    let s := s.onTimer fun t => { t with blockDue := false }
    let s := allStreams.foldl (fun s n => s.blockStream late n) s.activityBlock
    s.tickProbes.onSupervision Supervision.tickReset
  else s

/-- What is left of a port's boundary work and expiries (log 3). -/
def State.settlePort (s : State) (p : Port) : State :=
  let s := ((s.quietCountLoss p).wakeCountReady p).lostTimerExpiry p
  let s := ((s.senderWork p).receiverWork p).takeTimeout p
  let s := ((s.quitTimerExpiry p).stallTimerExpiry p).haltTimerExpiry p
  let s := (s.identify p).identifyTimeout p
  (s.retryHolding p).expireHolding p

/-- What is left of supervision's boundary work. -/
def State.settleSupervision (s : State) : State :=
  ((s.onSupervision fun v => v.releaseReset.advance.turnPhase)).periodEnd

/-- Everything that the boundary has made due and that no command has done is done before the next edge (log 3). -/
def State.settle (s : State) : State :=
  let s := (s.blockWork []).scanStep
  let s := (allStreams.foldl State.streamWork s).judgeWork
  let s := allPorts.foldl State.settlePort s
  let s := [0, 1, 2, 3].foldl (fun s (_ : Nat) => s.expireProbe) s
  let s := (s.settleSupervision.formWork false).sourcesWork
  s.walkWork

/-- A piece of boundary work, each done at most once a boundary (log 3). -/
def State.doWork (s : State) : BoundaryWork → State
  | .stream n => s.streamWork n
  | .activity => s.judgeWork
  | .period => s.onSupervision Supervision.advance
  | .sender p => s.senderWork p
  | .receiver p => s.receiverWork p
  | .retry p => s.retryHolding p
  | .switch overlayFirst => s.formWork overlayFirst
  | .sources => s.sourcesWork
  | .walk => s.walkWork
  | .passed => s.settle.onTimer fun t => { t with passed := true }

/-- The looped frame of this frame has arrived, and the receiver has reported, before the edge (02 R43; log 17). -/
def State.settleLine (s : State) (p : Port) : State := (s.loopArrive p 0).settleReceiver p

/-! ### The edge (02 R27) -/

/-- The frame number advances; block boundary and scan step are marked. -/
def FrameTimer.edge (t : FrameTimer) : FrameTimer :=
  let number := t.number + 1
  { number, blockDue := number == 0, scanDue := number == 32 }

/-- The timer stands at the boundary of frame 0. -/
def State.atBlock (s : State) : Bool := s.timer.number == 0

/-- What a boundary makes due at switch, monitor, streams, router, supervision and walker. -/
def State.makeDue (s : State) : State :=
  let block := s.atBlock
  let s := s.onSwitch fun w => { w with changeDue := w.slot.isSome, overlayDue := w.overlayOrder, formDue := true, sourcesDue := true }
  let s := s.onActivity fun a => { a with judgeDue := true, classifyDue := block, counted := Vector.replicate 120 false }
  let s : State := { s with streams := mapAll (fun t => t.edge block) s.streams }
  let s := s.onRouter fun r => { r with
    retryDue := mapAll Option.isSome r.waits
    probes := r.probes.map fun e => { e with tickDue := block } }
  let s := s.onSupervision fun v => { v with
    advanceDue := v.mode != .off && s.regs.run
    resetTick := block && v.resetOut.isSome }
  let due := s.canWalk
  s.onWalker fun w => { w with walkDue := due }

/-- A rising edge of FREF: what is left of the old boundary is done, then the new boundary comes. -/
def State.edge (s : State) : State :=
  let s := allPorts.foldl State.settleLine s.settle
  let s := s.onTimer FrameTimer.edge
  (allPorts.foldl State.edgePort s).makeDue

/-! ### The commands -/

/-- FRAME_BOUNDARY (02 R27): the edge, if there is one, and then the named works in order (log 3). -/
def execFrameBoundary (edge : Bool) (works : List BoundaryWork) (bus : List BusCycle) (s : State) :
    Host.Outcome State Fault Refusal :=
  whileReleasedBus s bus fun s => works.foldl State.doWork (if edge then s.edge else s)

/-- BLOCK_BOUNDARY (02 R27). -/
def execBlockBoundary (late : List StreamNo) (bus : List BusCycle) (s : State) : Host.Outcome State Fault Refusal :=
  whileReleasedBus s bus fun s => s.blockWork late

/-- SCAN_STEP (05 R93). -/
def execScanStep (s : State) : Host.Outcome State Fault Refusal := whileReleased s State.scanStep

/-- RECEIVE_FRAME (02 R31, R32). -/
def execReceiveFrame (p : Port) (mark : Bool) (octets : Frame) (s : State) : Host.Outcome State Fault Refusal :=
  whileReleased s fun s => s.receiveFrame p mark octets

/-- CANDIDATE_MARK (02 R31). -/
def execCandidateMark (p : Port) (position : Fin 256) (s : State) : Host.Outcome State Fault Refusal :=
  whileReleased s fun s => s.candidateMark p position

/-- ALIGNED (02 R31, R37). -/
def execAligned (p : Port) (s : State) : Host.Outcome State Fault Refusal := whileReleased s fun s => s.alignedEvent p

/-- MISALIGNED (02 R32, R38, R42). -/
def execMisaligned (p : Port) (s : State) : Host.Outcome State Fault Refusal := whileReleased s fun s => s.misalignedEvent p

/-- WAKE_COUNT_READY (02 R38, R39). -/
def execWakeCountReady (p : Port) (s : State) : Host.Outcome State Fault Refusal := whileReleased s fun s => s.wakeCountReady p

/-- QUIET_COUNT_LOSS (02 R42). -/
def execQuietCountLoss (p : Port) (s : State) : Host.Outcome State Fault Refusal := whileReleased s fun s => s.quietCountLoss p

/-- IDENTIFY_TIMEOUT (02 R40). -/
def execIdentifyTimeout (p : Port) (s : State) : Host.Outcome State Fault Refusal := whileReleased s fun s => s.identifyTimeout p

/-- LOST_TIMER_EXPIRY (02 R42). -/
def execLostTimerExpiry (p : Port) (s : State) : Host.Outcome State Fault Refusal := whileReleased s fun s => s.lostTimerExpiry p

/-- IDENTIFY (02 R40, R41). -/
def execIdentify (p : Port) (s : State) : Host.Outcome State Fault Refusal := whileReleased s fun s => s.identify p

/-- PORT_STATUS_WRITE (02 R45). -/
def execPortStatusWrite (p : Port) (bus : List BusCycle) (s : State) : Host.Outcome State Fault Refusal :=
  whileReleasedBus s bus fun s => s.portStatusWrite p

/-- ACTIVITY_IMAGE_WRITE (04 R82). -/
def execActivityImageWrite (words : Nat) (bus : List BusCycle) (s : State) : Host.Outcome State Fault Refusal :=
  whileReleasedBus s bus fun s => s.activityImageWrite words

/-- HANDOVER (06 R115, R116). -/
def execHandover (n : StreamNo) (bus : List BusCycle) (s : State) : Host.Outcome State Fault Refusal :=
  whileReleasedBus s bus fun s => s.handover n

/-- STREAM_ACCESS_COMPLETION (06 R108, R122). -/
def execStreamAccessCompletion (n : StreamNo) (bus : List BusCycle) (s : State) : Host.Outcome State Fault Refusal :=
  whileReleasedBus s bus fun s => s.endAccess n

/-- TAKE_TIMEOUT (07 R132). -/
def execTakeTimeout (p : Port) (s : State) : Host.Outcome State Fault Refusal := whileReleased s fun s => s.takeTimeout p

/-- QUIT_TIMER_EXPIRY (07 R133). -/
def execQuitTimerExpiry (p : Port) (s : State) : Host.Outcome State Fault Refusal := whileReleased s fun s => s.quitTimerExpiry p

/-- STALL_TIMER_EXPIRY (07 R138). -/
def execStallTimerExpiry (p : Port) (s : State) : Host.Outcome State Fault Refusal := whileReleased s fun s => s.stallTimerExpiry p

/-- HALT_TIMER_EXPIRY (07 R138). -/
def execHaltTimerExpiry (p : Port) (s : State) : Host.Outcome State Fault Refusal := whileReleased s fun s => s.haltTimerExpiry p

/-- HOLDING_WAIT_EXPIRY (08 R150). -/
def execHoldingWaitExpiry (p : Port) (s : State) : Host.Outcome State Fault Refusal := whileReleased s fun s => s.expireHolding p

/-- NO_REPLY (08 R158). -/
def execNoReply (s : State) : Host.Outcome State Fault Refusal := whileReleased s State.expireProbe

/-- PHASE_SECOND (09 R164). -/
def execPhaseSecond (s : State) : Host.Outcome State Fault Refusal :=
  whileReleased s fun s => s.onSupervision Supervision.turnPhase

/-- PERIOD_END (09 R168). -/
def execPeriodEnd (s : State) : Host.Outcome State Fault Refusal := whileReleased s State.periodEnd

/-- RESET_OUT_RELEASE (09 R170). -/
def execResetOutRelease (s : State) : Host.Outcome State Fault Refusal :=
  whileReleased s fun s => s.onSupervision Supervision.releaseReset

/-- SUPERVISION_WORD_WRITE (09 R175). -/
def execSupervisionWordWrite (bus : List BusCycle) (s : State) : Host.Outcome State Fault Refusal :=
  whileReleasedBus s bus State.supervisionWordWrite

end Sys2Proof.Machine
end

