-- ==== Sys2Proof/Machine/Dispatch.lean ====
section
/-! DEFINITION. The dispatch: one arm for each command, one direct call of its meaning. -/

namespace Sys2Proof.Machine

def exec (i : Instr) (s : State) : Host.Outcome State Fault Refusal :=
  match i with
  | .frameBoundary edge works bus => Sys2Proof.Machine.execFrameBoundary edge works bus s
  | .blockBoundary late bus => Sys2Proof.Machine.execBlockBoundary late bus s
  | .scanStep => Sys2Proof.Machine.execScanStep s
  | .powerOnReset cuts => Sys2Proof.Machine.execPowerOnReset cuts s
  | .softReset value cuts => Sys2Proof.Machine.execSoftReset value cuts s
  | .run value bus => Sys2Proof.Machine.execRun value bus s
  | .resume value bus => Sys2Proof.Machine.execResume value bus s
  | .areaBase value => Sys2Proof.Machine.execAreaBase value s
  | .attention value => Sys2Proof.Machine.execAttention value s
  | .attentionEnable value => Sys2Proof.Machine.execAttentionEnable value s
  | .registerWriteIgnored offset value lanes => Sys2Proof.Machine.execRegisterWriteIgnored offset value lanes s
  | .heldWrite bus => Sys2Proof.Machine.execHeldWrite bus s
  | .retirement bus => Sys2Proof.Machine.execRetirement bus s
  | .nop => Sys2Proof.Machine.execNop s
  | .portSetup => Sys2Proof.Machine.execPortSetup s
  | .setNode => Sys2Proof.Machine.execSetNode s
  | .editMap => Sys2Proof.Machine.execEditMap s
  | .dropTag => Sys2Proof.Machine.execDropTag s
  | .queryMap bus => Sys2Proof.Machine.execQueryMap bus s
  | .setActivity => Sys2Proof.Machine.execSetActivity s
  | .setScan => Sys2Proof.Machine.execSetScan s
  | .scanControlHold => Sys2Proof.Machine.execScanControlHold s
  | .scanControlRelease => Sys2Proof.Machine.execScanControlRelease s
  | .scanControlStep => Sys2Proof.Machine.execScanControlStep s
  | .scanControlSelect => Sys2Proof.Machine.execScanControlSelect s
  | .openStream bus => Sys2Proof.Machine.execOpenStream bus s
  | .closeStream bus => Sys2Proof.Machine.execCloseStream bus s
  | .send => Sys2Proof.Machine.execSend s
  | .listen => Sys2Proof.Machine.execListen s
  | .probe => Sys2Proof.Machine.execProbe s
  | .recallPool => Sys2Proof.Machine.execRecall s
  | .supervise => Sys2Proof.Machine.execSupervise s
  | .pulse => Sys2Proof.Machine.execPulse s
  | .setFallback => Sys2Proof.Machine.execSetFallback s
  | .enter => Sys2Proof.Machine.execEnter s
  | .recover => Sys2Proof.Machine.execRecover s
  | .receiveFrame p mark octets => Sys2Proof.Machine.execReceiveFrame p mark octets s
  | .aligned p => Sys2Proof.Machine.execAligned p s
  | .misaligned p => Sys2Proof.Machine.execMisaligned p s
  | .wakeCountReady p => Sys2Proof.Machine.execWakeCountReady p s
  | .quietCountLoss p => Sys2Proof.Machine.execQuietCountLoss p s
  | .identifyTimeout p => Sys2Proof.Machine.execIdentifyTimeout p s
  | .lostTimerExpiry p => Sys2Proof.Machine.execLostTimerExpiry p s
  | .identify p => Sys2Proof.Machine.execIdentify p s
  | .portStatusWrite p bus => Sys2Proof.Machine.execPortStatusWrite p bus s
  | .activityImageWrite words bus => Sys2Proof.Machine.execActivityImageWrite words bus s
  | .handover n bus => Sys2Proof.Machine.execHandover n bus s
  | .takeTimeout p => Sys2Proof.Machine.execTakeTimeout p s
  | .quitTimerExpiry p => Sys2Proof.Machine.execQuitTimerExpiry p s
  | .stallTimerExpiry p => Sys2Proof.Machine.execStallTimerExpiry p s
  | .haltTimerExpiry p => Sys2Proof.Machine.execHaltTimerExpiry p s
  | .holdingWaitExpiry p => Sys2Proof.Machine.execHoldingWaitExpiry p s
  | .noReply => Sys2Proof.Machine.execNoReply s
  | .phaseSecond => Sys2Proof.Machine.execPhaseSecond s
  | .periodEnd => Sys2Proof.Machine.execPeriodEnd s
  | .resetOutRelease => Sys2Proof.Machine.execResetOutRelease s
  | .supervisionWordWrite bus => Sys2Proof.Machine.execSupervisionWordWrite bus s
  | .streamAccessCompletion n bus => Sys2Proof.Machine.execStreamAccessCompletion n bus s
  | .candidateMark p position => Sys2Proof.Machine.execCandidateMark p position s
  | .poresetRelease => Sys2Proof.Machine.execPoresetRelease s

end Sys2Proof.Machine
end

