-- ==== Sys2Proof/Machine/Step.lean ====
section
/-! DEFINITION. One step: the command at the front of the queue; and the state with a command put there. -/

namespace Sys2Proof.Machine

/-- The state with its queue replaced. -/
def State.withPending (s : State) (q : List Instr) : State := { s with pending := q }

/-- The command at the front of the queue is taken out and carried out; on an empty queue the block idles (log 28). -/
def step (s : State) : Host.Outcome State Fault Refusal :=
  match s.pending with
  | [] => .next s
  | c :: rest => exec c (s.withPending rest)

/-- The state with the command that a word spells at the front of its queue; no row of the table spells one in bits. -/
def State.withFetchWord (s : State) (nbits w : Nat) : State :=
  match decodeTableWord nbits w with
  | some c => s.withPending (c :: s.pending)
  | none => s

end Sys2Proof.Machine
end

