-- ==== Sys2Proof/Safety.lean ====
section
/-! DEFINITION. The words in which statements are made: what it is to keep a property, a record ready to be taken,
and the state with a record taken, its retirement or its HELD write asked for. -/

namespace Sys2Proof

open Sys2Proof.Machine

/-- A property that every step keeps. -/
def Kept (P : State → Prop) : Prop := ∀ s t, P s → step s = .next t → P t

/-- The walker has found record `r` of kind `k`, which no command has taken yet, and PORESET is released. -/
def Found (s : State) (k : Kind) (r : WorkRecord) : Prop :=
  s.regs.poreset = false ∧ s.walker.walk = .found r ∧ kindOf r.kind = some k

/-- The state with `r` taken: it is the cursor, the chain is started, and its take is in progress (01 R11). -/
def taken (s : State) (r : WorkRecord) : State :=
  { s with walker := { s.walker with cursor := some r.held.offset, chainStarted := true, status := .idle, walk := .taking } }

/-- The state with `r` taken and its retirement asked for (01 R11). -/
def ended (s : State) (r : WorkRecord) (outcome : OutcomeCode) (detail : Octet) : State :=
  { taken s r with retire := s.retire ++ [.retire r.held outcome detail [] true] }

/-- The state with `r` taken and its HELD write asked for (01 R11). -/
def kept (s : State) (r : WorkRecord) : State :=
  { taken s r with retire := s.retire ++ [.held r.held.offset true] }

/-- The state with the walker BLOCKED and the walk over (01 R10). -/
def blocked (s : State) : State := { s with walker := { s.walker with status := .blocked, walk := .none } }

/-- A cause added to the pending set (10 R181). -/
def withCause (s : State) (c : Cause) : State :=
  { s with regs := { s.regs with attnPending := s.regs.attnPending ||| c.bit } }

/-- Memory after one write of the part, at AREA_BASE as it stands in `s` (01 R1). -/
def stored (s : State) (m : Memory) : Write → Memory
  | .word off w => m.writeWord (s.busAddress off) w
  | .byte off b => m.write (s.busAddress off) b

/-- The walker as a halting event leaves it (01 R17 to R19). -/
def halted (w : Walker) (reason : HaltReason) : Walker :=
  { w with status := .halted, haltReason := reason, walk := .none, haltPending := none, stopping := false, walkDue := false }

/-- The state with line unit `new` at port `p`, the port's channel flushed where the port was READY or LINKED before
(07 R142). -/
def flushed (s : State) (p : Port) (new : LineUnit) : State :=
  ({ s with lines := s.lines.set p new } : State).flushIf s.lines[p].line.runs p

/-- The words of the activity image from word `j` on, `k` of them, written into memory (04 R82). -/
def imageWritten (s : State) (j k : Nat) : Memory :=
  (List.range k).foldl (fun m i =>
    m.writeWord (s.busAddress (BitVec.ofNat 20 (0x20 + 4 * (j + i)))) (s.activity.imageWord (j + i))) s.mem

/-- `k` good bus cycles, and then one that ends with an error. -/
def errorAfter (k : Nat) : List BusCycle := List.replicate k ({} : BusCycle) ++ [{ error := true }]

/-- The 120 octets in `now` come from the sources of its map, as `old` holds their octets for the frame just ended
(03 R49 to R52). -/
def Formed (old now : Switch) : Prop :=
  ∀ k : SlotIndex,
    (now.map[k].source = .none → now.out[k] = 0xFF) ∧
    (∀ j, now.map[k].source = .slot j → now.out[k] = old.srcSlots[j]) ∧
    (∀ n, now.map[k].source = .stream n → now.out[k] = old.srcStreams[n]) ∧
    (∀ g, now.map[k].source = .scan g → now.out[k] = old.srcScans[g]) ∧
    ∀ v, now.map[k].source = .const v → now.out[k] = v

/-! ### Invariants -/

/-- The collections, counts and settings stay within the bounds that the chapters give them. -/
def InRange (s : State) : Prop :=
  (∀ p : Port, s.channels[p].queue.length ≤ 4 ∧ s.lines[p].wakeCount ≤ 8 ∧ s.lines[p].quietCount ≤ 4) ∧
  s.router.listens.length ≤ 8 ∧ s.router.probes.length ≤ 4 ∧
  (∀ g : GroupNo, s.groups[g].members.length ≤ 8 ∧ (∀ m ∈ s.groups[g].members, m.dwell ≤ 255) ∧
    ∀ i, s.groups[g].current = some i → i < s.groups[g].members.length ∧ 1 ≤ s.groups[g].dwell ∧ s.groups[g].dwell ≤ 255) ∧
  2 ≤ s.activity.threshold ∧ s.activity.threshold ≤ 127 ∧ 1 ≤ s.activity.onset ∧ s.activity.onset ≤ 64 ∧
  s.activity.hang ≤ 255 ∧ (∀ k : SlotIndex, s.activity.slots[k].hang ≤ 255) ∧
  2 ≤ s.supervision.period ∧ s.supervision.period ≤ 254 ∧ s.supervision.period % 2 = 0 ∧
  1 ≤ s.supervision.threshold ∧ s.supervision.threshold ≤ 15 ∧ 1 ≤ s.supervision.pulseLength ∧
  s.supervision.pulseLength ≤ 15 ∧ s.supervision.errorCount ≤ 15 ∧ s.supervision.index ≤ 3 ∧
  s.supervision.position < 64 * s.supervision.period ∧ s.supervision.table.length ≤ 32

/-- A walk makes at most four takes, and the take in progress, if there is one, has its one request at the retire path. -/
def TakeHasItsRequest (s : State) : Prop :=
  s.walker.takes ≤ 4 ∧ (s.walker.walk ≠ .none → s.walker.takes ≤ 3) ∧
  (s.retire.filter fun q => match q with | .held _ awaited => awaited | .retire _ _ _ _ awaited => awaited).length =
    if s.walker.walk = .taking then 1 else 0

/-- The number of references to a stream: map entries, displaced entries and scan members that name it (06 R123). -/
def references (s : State) (n : StreamNo) : Nat :=
  (s.switch.map.toList.countP fun e => e.source == .stream n) +
  (s.switch.displaced.countP fun d => d.entry.source == .stream n) +
  (s.groups.toList.map fun g => g.members.countP fun m => m.source == .stream n).sum

/-- Every stream's reference count counts its references, and a stream with references is an open FEED; with what keeps that
so: the fallback table names each target once and no stream, the entries with the fallback mark are the targets of the
displaced list, and an overlay is ordered only while FALLBACK is set and nothing is displaced. -/
def ReferencesCounted (s : State) : Prop :=
  (∀ n : StreamNo, s.streams[n].refs = references s n ∧ (0 < s.streams[n].refs → s.isOpenFeed n = true)) ∧
  (s.supervision.table.map fun e => e.target).Nodup ∧ (∀ e ∈ s.supervision.table, ∀ n, e.source ≠ .stream n) ∧
  (s.switch.displaced.map fun d => d.target).Nodup ∧
  (∀ d ∈ s.switch.displaced, s.switch.map[d.target].marked = true ∧ ∀ n, s.switch.map[d.target].source ≠ .stream n) ∧
  (∀ k : SlotIndex, s.switch.map[k].marked = true → ∃ d ∈ s.switch.displaced, d.target = k) ∧
  (s.switch.overlayDue = true → s.switch.overlayOrder = true) ∧ (s.switch.overlayOrder = true → s.switch.displaced = []) ∧
  (s.supervision.fallback = false → s.switch.overlayOrder = false ∧ s.switch.displaced = [])

end Sys2Proof
end

