-- ==== Sys2Proof/Certificates/Slice0/Obligations.lean ====
section
/-! DEFINITION. The statements for the provers.
In all of them the bus cycles of a command and the empty `bus` after it are the model's (log 5); `[]` is a bus on which no
access fails and the host stores nothing meanwhile. -/

open Sys2Proof Sys2Proof.Machine

/-! ### The queue -/

/-- A step is the command at the front of the queue, carried out on the state with the queue's rest; on an empty queue the
state stays as it is (log 28). -/
def Obligations.StepTakesTheFrontCommand : Prop :=
  (∀ (c : Instr) (q : List Instr) (s : State), step { s with pending := c :: q } = exec c { s with pending := q }) ∧
  ∀ s : State, s.pending = [] → step s = .next s

/-- Every command, with whatever operands, answers a next state in every state, and leaves the queue as it stands
(log 29). -/
def Obligations.EveryCommandAnswers : Prop :=
  ∀ (c : Instr) (s : State), ∃ t, exec c s = .next t ∧ t.pending = s.pending

/-! ### Resets (10 R183) -/

/-- The state right after reset: the values that the state tables of the chapters give.
The model's own here: the values of the named fields whose reset value no table gives, the candidate position, the presented
frame, and the image write under way (log 38). -/
def Obligations.ResetValues : Prop :=
  State.reset.regs.run = false ∧ State.reset.regs.areaBase = 0 ∧ State.reset.regs.attnPending = 0 ∧
  State.reset.regs.attnEnable = 0 ∧ State.reset.attn = false ∧
  State.reset.walker.status = .stopped ∧ State.reset.walker.haltReason = .none ∧ State.reset.walker.cursor = none ∧
  State.reset.walker.chainStarted = false ∧ State.reset.walker.headerWritten = false ∧
  State.reset.walker.retireCount = 0 ∧ State.reset.walker.takes = 0 ∧ State.reset.walker.walk = .none ∧ State.reset.retire = [] ∧
  State.reset.timer.number = 63 ∧
  (∀ p : Port, State.reset.lines[p].line = .off ∧ State.reset.lines[p].loop = false ∧ State.reset.lines[p].peer = 0 ∧
    State.reset.lines[p].wakeCount = 0 ∧ State.reset.lines[p].quietCount = 0 ∧ State.reset.lines[p].peerSeen = false ∧
    State.reset.lines[p].identifyTimer = none ∧ State.reset.lines[p].lostTimer = none ∧
    State.reset.lines[p].rx.status = .stopped ∧ State.reset.lines[p].rx.markCount = 0 ∧
    State.reset.lines[p].rx.missCount = 0 ∧ State.reset.lines[p].rx.candidate = none ∧
    State.reset.lines[p].rx.presented = Vector.replicate 32 0xFF ∧ State.reset.lines[p].statusDue = false) ∧
  (∀ k : SlotIndex, State.reset.switch.map[k] = { source := .none, tag := 0, cls := .normal, marked := false } ∧
    State.reset.switch.srcSlots[k] = 0xFF ∧ State.reset.switch.out[k] = 0xFF) ∧
  (∀ n : StreamNo, State.reset.switch.srcStreams[n] = 0xFF) ∧ (∀ g : GroupNo, State.reset.switch.srcScans[g] = 0xFF) ∧
  State.reset.switch.slot = none ∧ State.reset.switch.overlayOrder = false ∧ State.reset.switch.displaced = [] ∧
  State.reset.activity.threshold = 16 ∧ State.reset.activity.onset = 8 ∧ State.reset.activity.hang = 4 ∧
  State.reset.activity.watch = 0 ∧ State.reset.activity.imageDue = false ∧ State.reset.activity.imageNext = none ∧
  (∀ k : SlotIndex, State.reset.activity.slots[k] = { active := false, loud := 0, hang := 0 }) ∧
  (∀ g : GroupNo, State.reset.groups[g] =
    { members := [], skipSilent := false, hold := false, current := none, dwell := 0 }) ∧
  (∀ n : StreamNo, State.reset.streams[n].desc = none ∧ State.reset.streams[n].refs = 0 ∧
    State.reset.streams[n].current = 0xFF) ∧
  (∀ p : Port, State.reset.channels[p].sender = .idle ∧ State.reset.channels[p].inFlight = none ∧
    State.reset.channels[p].queue = [] ∧ State.reset.channels[p].receiver = .idle ∧
    State.reset.channels[p].holding = none ∧ State.reset.channels[p].offer = false ∧
    State.reset.channels[p].last = false ∧ State.reset.channels[p].quit = false ∧ State.reset.channels[p].take = false ∧
    State.reset.channels[p].halt = false ∧ State.reset.channels[p].takeTimer = none ∧ State.reset.channels[p].quitTimer = none ∧
    State.reset.channels[p].stallTimer = none ∧ State.reset.channels[p].haltTimer = none ∧
    State.reset.channels[p].partialMsg = [] ∧ State.reset.router.waits[p] = none) ∧
  State.reset.router.node = 0 ∧ State.reset.router.listens = [] ∧ State.reset.router.probes = [] ∧
  (∀ i : Fin 8, State.reset.router.table[i] = none) ∧
  State.reset.supervision.mode = .off ∧ State.reset.supervision.period = 2 ∧ State.reset.supervision.threshold = 15 ∧
  State.reset.supervision.action = .fallback ∧ State.reset.supervision.pulseLength = 1 ∧
  State.reset.supervision.selector = .a ∧ State.reset.supervision.errorCount = 0 ∧
  State.reset.supervision.position = 0 ∧ State.reset.supervision.phase = .first ∧ State.reset.supervision.bad = false ∧
  State.reset.supervision.q = 1 ∧ State.reset.supervision.index = 3 ∧ State.reset.supervision.table = [] ∧
  State.reset.supervision.fallback = false ∧ State.reset.supervision.tripped = false ∧
  State.reset.supervision.wordDue = false ∧ State.reset.resetOut = false

/-- A power-on reset that finds no access in progress, or that comes while PORESET is asserted, gives every block its reset
values, writes nothing into memory and keeps PORESET asserted; its release changes nothing else. While PORESET is asserted
every other command changes nothing (10 R177; log 27), and every register reads its power-on value once the reset has been taken.
The model's own here: the accesses cut by a reset (log 6). -/
def Obligations.PowerOnReset : Prop :=
  ((∀ s : State, exec (.powerOnReset []) s =
      .next { State.reset with pending := s.pending, mem := s.mem, regs := { State.reset.regs with poreset := true } }) ∧
    (∀ (cuts : List Cut) (s : State), ∃ m, exec (.powerOnReset cuts) s =
      .next { State.reset with pending := s.pending, mem := m, regs := { State.reset.regs with poreset := true } } ∧
      (s.regs.poreset = true → m = s.mem)) ∧
    ∀ s : State, exec .poresetRelease s = .next { s with regs := { s.regs with poreset := false } }) ∧
  ((∀ (c : Instr) (s : State), s.regs.poreset = true → (∀ cuts, c ≠ .powerOnReset cuts) → c ≠ .poresetRelease →
      exec c s = .next s) ∧
    ∀ (cuts : List Cut) (s t : State), exec (.powerOnReset cuts) s = .next t →
      ∀ offset : BitVec 5, t.readRegister offset = State.reset.readRegister offset)

/-- A soft reset gives every block its reset values but AREA_BASE and TRIPPED; one that finds no access in progress
leaves memory as it is.
The model's own here: the accesses cut by a reset (log 6). -/
def Obligations.SoftReset : Prop :=
  (∀ (v : Word) (s : State), s.regs.poreset = false → isResetCode v = true →
    exec (.softReset v []) s =
      .next { State.reset with
        pending := s.pending
        mem := s.mem
        regs := { State.reset.regs with areaBase := s.regs.areaBase }
        supervision := { State.reset.supervision with tripped := s.supervision.tripped } }) ∧
  ∀ (v : Word) (cuts : List Cut) (s : State), s.regs.poreset = false → isResetCode v = true → ∃ m,
    exec (.softReset v cuts) s =
      .next { State.reset with
        pending := s.pending
        mem := m
        regs := { State.reset.regs with areaBase := s.regs.areaBase }
        supervision := { State.reset.supervision with tripped := s.supervision.tripped } }

/-! ### Registers (10) -/

/-- RUN written with its present value changes nothing; RUN written 1 after the first setting of a reset period takes a
STOPPED walker to IDLE; RUN written 0 stops a walker between takes at once, leaves a HALTED one HALTED, and lets a take
in progress finish.
The model's own here: marks of due work (walkDue; log 3), the take that waits for its request (log 8, log 9), a record
found and not yet taken is dropped (log 10). -/
def Obligations.RunWritten : Prop :=
  ∀ (v : Word) (bus : List BusCycle) (s : State), s.regs.poreset = false → isResetCode v = false → v.getLsbD 1 = false →
    (v.getLsbD 0 = s.regs.run → exec (.run v bus) s = .next { s with bus := {} }) ∧
    (s.regs.run = false → v.getLsbD 0 = true → s.walker.headerWritten = true →
      exec (.run v bus) s = .next { s with
        bus := {}
        regs := { s.regs with run := true }
        walker := { s.walker with status := if s.walker.status = .stopped then .idle else s.walker.status } }) ∧
    (s.regs.run = true → v.getLsbD 0 = false → s.walker.walk ≠ .taking → s.walker.status ≠ .halted →
      exec (.run v bus) s = .next { s with
        bus := {}
        regs := { s.regs with run := false }
        walker := { s.walker with status := .stopped, walk := .none, walkDue := false } }) ∧
    (s.regs.run = true → v.getLsbD 0 = false → s.walker.walk ≠ .taking → s.walker.status = .halted →
      exec (.run v bus) s = .next { s with
        bus := {}
        regs := { s.regs with run := false }
        walker := { s.walker with walkDue := false } }) ∧
    (s.regs.run = true → v.getLsbD 0 = false → s.walker.walk = .taking →
      exec (.run v bus) s = .next { s with
        bus := {}
        regs := { s.regs with run := false }
        walker := { s.walker with stopping := true, walkDue := false } })

/-- The first RUN after a reset, on a bus without errors: 0 goes into the cursor offset word and into the retire count word,
the header-written flag is set, and port status words (02 R45), activity image (04 R83) and supervision word (09 R175) become
due. A bus error on either write halts the walker with reason BUS; flag and due fields are as without it.
The model's own here: whether the second write is made when the first has failed is free (log 12). -/
def Obligations.FirstRunWritesTheHeader : Prop :=
  ∀ (v : Word) (s : State), s.regs.poreset = false → isResetCode v = false → v.getLsbD 1 = false →
    s.regs.run = false → v.getLsbD 0 = true → s.walker.headerWritten = false →
    exec (.run v []) s = .next { s with
      bus := {}
      mem := (s.mem.writeWord (s.busAddress 0x04) 0).writeWord (s.busAddress 0x08) 0
      regs := { s.regs with run := true }
      walker := { s.walker with headerWritten := true, status := if s.walker.status = .stopped then .idle else s.walker.status }
      lines := mapAll (fun l => { l with statusDue := true }) s.lines
      activity := { s.activity with imageDue := true }
      supervision := { s.supervision with wordDue := true } } ∧
    (s.walker.walk ≠ .taking → s.walker.status ≠ .halted →
      let failed (m : Memory) : State := { withCause (withCause { s with regs := { s.regs with run := true } } .bus) .chain with
        bus := {}
        mem := m
        walker := { halted s.walker .bus with headerWritten := true }
        lines := mapAll (fun l => { l with statusDue := true }) s.lines
        activity := { s.activity with imageDue := true }
        supervision := { s.supervision with wordDue := true } }
      (exec (.run v (errorAfter 0)) s = .next (failed s.mem) ∨
        exec (.run v (errorAfter 0)) s = .next (failed (s.mem.writeWord (s.busAddress 0x08) 0))) ∧
      exec (.run v [{ error := true }, { error := true }]) s = .next (failed s.mem) ∧
      exec (.run v (errorAfter 1)) s = .next (failed (s.mem.writeWord (s.busAddress 0x04) 0)))

/-- RESUME takes a HALTED walker to IDLE while RUN is 1, or to STOPPED while it is 0, sets the halt reason to NONE and changes
nothing else; it does nothing to a walker that is not HALTED. RUN is written before RESUME acts: a write that clears RUN takes
a HALTED walker to STOPPED, and every write with RESUME does what its RUN bit does alone, and then RESUME.
The model's own here: the header writes of a first RUN come before RESUME acts (log 40). -/
def Obligations.ResumeWritten : Prop :=
  ∀ (v : Word) (bus : List BusCycle) (s : State), s.regs.poreset = false → isResetCode v = false → v.getLsbD 1 = true →
    (v.getLsbD 0 = s.regs.run → s.walker.status = .halted →
      exec (.resume v bus) s = .next { s with
        bus := {}
        walker := { s.walker with status := if s.regs.run then .idle else .stopped, haltReason := .none } }) ∧
    (v.getLsbD 0 = s.regs.run → s.walker.status ≠ .halted → exec (.resume v bus) s = .next { s with bus := {} }) ∧
    (s.regs.run = false → v.getLsbD 0 = true → s.walker.status = .halted → s.walker.headerWritten = true →
      exec (.resume v bus) s = .next { s with
        bus := {}
        regs := { s.regs with run := true }
        walker := { s.walker with status := .idle, haltReason := .none } }) ∧
    (s.regs.run = true → v.getLsbD 0 = false → s.walker.status = .halted → s.walker.walk ≠ .taking →
      exec (.resume v bus) s = .next { s with
        bus := {}
        regs := { s.regs with run := false }
        walker := { s.walker with status := .stopped, haltReason := .none, walkDue := false } }) ∧
    ∃ t, exec (.run (v &&& 0xFFFFFFFD) bus) s = .next t ∧
      (t.walker.status ≠ .halted → exec (.resume v bus) s = .next t) ∧
      (t.walker.status = .halted → exec (.resume v bus) s = .next { t with
        walker := { t.walker with status := if t.regs.run then .idle else .stopped, haltReason := .none } })

/-- AREA_BASE takes bits 31 to 20 while RUN is 0 and keeps its value while RUN is 1; it reads 0 in bits 19 to 0; an access
lands at AREA_BASE as it stands plus its offset; it reads 0 after power-on reset and keeps its value through soft reset.
The model's own here: the accesses cut by a reset (log 6). -/
def Obligations.AreaBaseWritten : Prop :=
  (∀ (v : Word) (s : State), s.regs.poreset = false → s.regs.run = false → ∃ t, exec (.areaBase v) s = .next t ∧
    t = { s with regs := { s.regs with areaBase := v.extractLsb' 20 12 } } ∧ t.readRegister 0x0C = v &&& 0xFFF00000) ∧
  (∀ (v : Word) (s : State), s.regs.poreset = false → s.regs.run = true → exec (.areaBase v) s = .next s) ∧
  (∀ (s : State) (off : Offset), s.busAddress off = s.regs.areaBase.toNat * 0x100000 + off.toNat) ∧
  (∀ (cuts : List Cut) (s : State), ∃ t, exec (.powerOnReset cuts) s = .next t ∧ t.readRegister 0x0C = 0) ∧
  ∀ (v : Word) (cuts : List Cut) (s : State), s.regs.poreset = false → isResetCode v = true →
    ∃ t, exec (.softReset v cuts) s = .next t ∧ t.regs.areaBase = s.regs.areaBase

/-- ATTENTION clears the causes written 1 and leaves the others; a read returns the causes both pending and enabled; a
raise leaves its cause pending, and the later of a raise and a clearing write decides. The bit of each cause. -/
def Obligations.AttentionWritten : Prop :=
  (Cause.retire.bit = 1 <<< 0 ∧ Cause.chain.bit = 1 <<< 1 ∧ Cause.port.bit = 1 <<< 2 ∧ Cause.activity.bit = 1 <<< 3 ∧
    Cause.stream.bit = 1 <<< 4 ∧ Cause.supervision.bit = 1 <<< 5 ∧ Cause.bus.bit = 1 <<< 6) ∧
  (∀ (v : Word) (s : State), s.regs.poreset = false → ∃ t, exec (.attention v) s = .next t ∧
    t = { s with regs := { s.regs with attnPending := t.regs.attnPending } } ∧
    ∀ i : Nat, i < 7 → t.regs.attnPending.getLsbD i = (s.regs.attnPending.getLsbD i && !v.getLsbD i)) ∧
  (∀ (s : State) (c : Cause), s.raise c = withCause s c) ∧
  (∀ (v : Word) (s : State) (c : Cause), s.regs.poreset = false →
    (∃ t, exec (.attention v) s = .next t ∧ (t.raise c).regs.attnPending &&& c.bit = c.bit) ∧
    (v.setWidth 7 &&& c.bit = c.bit → ∃ t, exec (.attention v) (s.raise c) = .next t ∧ t.regs.attnPending &&& c.bit = 0)) ∧
  ∀ (s : State) (i : Nat), i < 32 →
    (s.readRegister 0x10).getLsbD i = (decide (i < 7) && s.regs.attnPending.getLsbD i && s.regs.attnEnable.getLsbD i)

/-- ATTENTION_ENABLE holds one enable per cause and reads as written; ATTN is asserted exactly when some cause is both
pending and enabled, and is re-evaluated at every raise, clear and enable write; after either reset both sets are empty
and ATTN is released.
The model's own here: the accesses cut by a reset (log 6). -/
def Obligations.AttentionEnableAndAttn : Prop :=
  (∀ (v : Word) (s : State), s.regs.poreset = false → ∃ t, exec (.attentionEnable v) s = .next t ∧
    t = { s with regs := { s.regs with attnEnable := v.setWidth 7 } } ∧ t.readRegister 0x14 = v &&& 0x7F) ∧
  (∀ s : State, s.attn = true ↔ ∃ i, i < 7 ∧ s.regs.attnPending.getLsbD i = true ∧ s.regs.attnEnable.getLsbD i = true) ∧
  (∀ (v : Word) (s t : State), s.regs.poreset = false → exec (.attentionEnable v) s = .next t →
    (t.attn = true ↔ ∃ i, i < 7 ∧ s.regs.attnPending.getLsbD i = true ∧ v.getLsbD i = true)) ∧
  (∀ (v : Word) (s t : State), s.regs.poreset = false → exec (.attention v) s = .next t →
    (t.attn = true ↔ ∃ i, i < 7 ∧ s.regs.attnPending.getLsbD i = true ∧ v.getLsbD i = false ∧
      s.regs.attnEnable.getLsbD i = true)) ∧
  (∀ (cuts : List Cut) (s t : State), exec (.powerOnReset cuts) s = .next t →
    t.regs.attnPending = 0 ∧ t.regs.attnEnable = 0 ∧ t.attn = false) ∧
  ∀ (v : Word) (cuts : List Cut) (s t : State), s.regs.poreset = false → isResetCode v = true →
    exec (.softReset v cuts) s = .next t → t.regs.attnPending = 0 ∧ t.regs.attnEnable = 0 ∧ t.attn = false

/-- A write that the window ignores changes nothing; offsets from 0x18 on read 0, IDENT reads its constant, CONTROL reads RUN in
bit 0 and 0 elsewhere, AREA_BASE reads its bits and 0 below them, and STATE shows walker state, halt reason, FALLBACK, TRIPPED and supervision mode as
they stand, and nothing else. The values of these fields. -/
def Obligations.RegisterReads : Prop :=
  (WalkerStatus.stopped.code = 0 ∧ WalkerStatus.idle.code = 1 ∧ WalkerStatus.waiting.code = 2 ∧ WalkerStatus.blocked.code = 3 ∧
    WalkerStatus.halted.code = 4 ∧ HaltReason.none.code = 0 ∧ HaltReason.recordFailed.code = 1 ∧ HaltReason.badLink.code = 2 ∧
    HaltReason.bus.code = 3 ∧ Mode.off.code = 0 ∧ Mode.window.code = 1 ∧ Mode.challenge.code = 2) ∧
  ((∀ (o : BitVec 5) (v : Word) (lanes : BitVec 4) (s : State), exec (.registerWriteIgnored o v lanes) s = .next s) ∧
    (∀ s : State, s.readRegister 0x00 = 0x52430001) ∧
    (∀ s : State, (s.readRegister 0x04).getLsbD 0 = s.regs.run ∧ (s.readRegister 0x04).extractLsb' 1 31 = 0) ∧
    (∀ s : State, (s.readRegister 0x0C).extractLsb' 20 12 = s.regs.areaBase ∧ (s.readRegister 0x0C).extractLsb' 0 20 = 0) ∧
    ∀ (s : State) (o : BitVec 5), 0x18 ≤ o.toNat → s.readRegister o = 0) ∧
  (∀ s : State, (s.readRegister 0x08).extractLsb' 0 3 = BitVec.ofNat 3 s.walker.status.code ∧
      (s.readRegister 0x08).getLsbD 3 = false ∧
      (s.readRegister 0x08).extractLsb' 4 2 = BitVec.ofNat 2 s.walker.haltReason.code ∧
      (s.readRegister 0x08).extractLsb' 6 2 = 0 ∧
      (s.readRegister 0x08).getLsbD 8 = s.supervision.fallback ∧ (s.readRegister 0x08).getLsbD 9 = s.supervision.tripped ∧
      (s.readRegister 0x08).extractLsb' 10 2 = 0 ∧
      (s.readRegister 0x08).extractLsb' 12 2 = s.supervision.mode.code.setWidth 2 ∧
      (s.readRegister 0x08).extractLsb' 14 18 = 0)

/-! ### The retire path (01 1.5) -/

/-- HELD_WRITE, which a take always waits for: the state byte HELD, then the cursor offset word; an earlier take than the
fourth brings another look from the new cursor, and RUN written 0 in the take ends the walk. A bus error on the byte leaves it
as it was and the cursor offset word follows; one on either write halts the walker after the take with reason BUS, with BUS and
CHAIN. A halting event that has come within the take halts the walker after it, with that event's reason and CHAIN.
The model's own here: the take that waits for its request (log 8, log 9), RUN written 0 and 1 within the take (log 11), the
first of two halting events within a take gives the reason (log 41). -/
def Obligations.HeldWriteServed : Prop :=
  ∀ (s : State) (off c : Offset) (rest : List Request), s.regs.poreset = false → s.retire = .held off true :: rest →
    s.walker.walk = .taking → s.walker.status ≠ .halted → s.walker.cursor = some c →
    let cursorWritten (m : Memory) := m.writeWord (s.busAddress 0x04) (c.setWidth 32)
    let held := s.mem.write (s.busAddress off) 0x03
    let done : Walker := { s.walker with status := .idle, walk := .none, takes := s.walker.takes + 1, stopping := false }
    let left (m : Memory) (w : Walker) : State := { s with bus := {}, retire := rest, mem := m, walker := w }
    let t := left (cursorWritten held) done
    (s.walker.haltPending = none →
      (s.regs.run = true → s.walker.stopping = false → 3 ≤ s.walker.takes → exec (.heldWrite []) s = .next t) ∧
      (s.regs.run = true → s.walker.stopping = false → s.walker.takes < 3 →
        exec (.heldWrite []) s = .next { t.look with bus := {} }) ∧
      (s.regs.run = false → exec (.heldWrite []) s = .next { t with walker := { done with status := .stopped } }) ∧
      (s.regs.run = true → s.walker.stopping = true → exec (.heldWrite []) s = .next t)) ∧
    (∀ reason, s.walker.haltPending = some reason →
      exec (.heldWrite []) s = .next (withCause (left (cursorWritten held) (halted done reason)) .chain)) ∧
    let reason := s.walker.haltPending.getD .bus
    exec (.heldWrite (errorAfter 0)) s =
      .next (withCause (withCause (left (cursorWritten s.mem) (halted done reason)) .bus) .chain) ∧
    exec (.heldWrite (errorAfter 1)) s = .next (withCause (withCause (left held (halted done reason)) .bus) .chain)

/-- RETIREMENT of a request that no take waits for, on a bus without errors: body results, outcome word with the low 16
bits of the count plus one, state byte and retire count word, in this order; the count rises by one; RETIRE is raised if
NOTIFY is set; a failure with HALT_ON_FAIL halts a walker that is not HALTED, with CHAIN, or waits for the end of the take in
progress. The code of each outcome.
The model's own here: the take that waits for its request (log 8, log 9), the first of two halting events within a take gives
the reason (log 41). -/
def Obligations.RetirementServed : Prop :=
  (let table : List (OutcomeCode × Octet) := [
     (.done, 0x00), (.badKind, 0x01), (.badLength, 0x02), (.badField, 0x03), (.badOffset, 0x04), (.badSlot, 0x05),
     (.duplicate, 0x06), (.noStream, 0x07), (.inUse, 0x08), (.occupied, 0x09), (.isProtected, 0x0A), (.state, 0x0B),
     (.linkDown, 0x0C), (.noRoute, 0x0D), (.hopsExhausted, 0x0E), (.takeTimeout, 0x0F), (.peerHalt, 0x10), (.noListener, 0x11),
     (.congested, 0x12), (.noReply, 0x13), (.recalled, 0x14), (.busError, 0x15)]
   (∀ e ∈ table, e.1.code = e.2) ∧ ∀ o : OutcomeCode, ∃ e ∈ table, e.1 = o) ∧
  ∀ (s : State) (h : Held) (o : OutcomeCode) (d : Octet) (results : List (Nat × Word)) (rest : List Request),
    s.regs.poreset = false → s.retire = .retire h o d results false :: rest →
    let m1 := results.foldl (fun m e => m.writeWord (s.busAddress (h.offset + 16 + BitVec.ofNat 20 (4 * e.1))) e.2) s.mem
    let m2 := m1.writeWord (s.busAddress (h.offset + 12))
      ((s.walker.retireCount + 1).setWidth 16 ++ d ++ o.code)
    let m3 := m2.write (s.busAddress h.offset) (if o = .done then 0x04 else 0x05)
    let m4 := m3.writeWord (s.busAddress 0x08) (s.walker.retireCount + 1)
    let t := { (if h.notify then withCause s .retire else s) with
      bus := {}
      retire := rest
      mem := m4
      walker := { s.walker with retireCount := s.walker.retireCount + 1 } }
    (o = .done ∨ h.haltOnFail = false ∨ s.walker.status = .halted → exec (.retirement []) s = .next t) ∧
    (o ≠ .done → h.haltOnFail = true → s.walker.status ≠ .halted → s.walker.walk ≠ .taking →
      exec (.retirement []) s = .next { withCause t .chain with walker := halted t.walker .recordFailed }) ∧
    (o ≠ .done → h.haltOnFail = true → s.walker.status ≠ .halted → s.walker.walk = .taking →
      exec (.retirement []) s = .next { t with
        walker := { t.walker with haltPending := some (s.walker.haltPending.getD .recordFailed) } })

/-- RETIREMENT that the take in progress waits for: the cursor offset word is written after it. Without a halting event the
fourth take of the walk ends the walk, an earlier one brings another look from the new cursor, and after RUN has been written
0 the walker becomes STOPPED. A failure with HALT_ON_FAIL, a halting event earlier in the take, or a bus error brings HALTED
with CHAIN after the cursor write; a bus error leaves the writes before it as made, and on a retirement write also the count
as it was.
The model's own here: the take that waits for its request (log 8, log 9), RUN written 0 and 1 within the take (log 11), the
first of two halting events within a take gives the reason (log 41). -/
def Obligations.RetirementEndsTheTake : Prop :=
  ∀ (s : State) (h : Held) (o : OutcomeCode) (d : Octet) (rest : List Request) (c : Offset),
    s.regs.poreset = false → s.retire = .retire h o d [] true :: rest → s.walker.walk = .taking →
    s.walker.status ≠ .halted → s.walker.cursor = some c →
    let writes := retireWrites (s.walker.retireCount + 1) h o d []
    let made (ws : List Write) := ws.foldl (stored s) s.mem
    let cursorWrite := Write.word 0x04 (c.setWidth 32)
    let done (count : Word) : Walker := { s.walker with
      retireCount := count, status := .idle, walk := .none, takes := s.walker.takes + 1, haltPending := none, stopping := false }
    let left (u : State) (ws : List Write) (w : Walker) : State := { u with bus := {}, retire := rest, mem := made ws, walker := w }
    let notified := if h.notify then withCause s .retire else s
    let fails := o ≠ .done ∧ h.haltOnFail = true
    let t := left notified (writes ++ [cursorWrite]) (done (s.walker.retireCount + 1))
    (s.walker.haltPending = none → ¬ fails →
      (s.regs.run = true → s.walker.stopping = false → 3 ≤ s.walker.takes → exec (.retirement []) s = .next t) ∧
      (s.regs.run = true → s.walker.stopping = false → s.walker.takes < 3 →
        exec (.retirement []) s = .next { t.look with bus := {} }) ∧
      (s.regs.run = false → exec (.retirement []) s = .next { t with walker := { t.walker with status := .stopped } }) ∧
      (s.regs.run = true → s.walker.stopping = true → exec (.retirement []) s = .next t)) ∧
    (∀ reason, s.walker.haltPending = some reason ∨ (s.walker.haltPending = none ∧ fails ∧ reason = .recordFailed) →
      exec (.retirement []) s = .next { withCause t .chain with walker := halted t.walker reason }) ∧
    (∀ k, k < 3 → exec (.retirement (errorAfter k)) s = .next (withCause (withCause
      (left s (writes.take k ++ [cursorWrite]) (halted (done s.walker.retireCount) (s.walker.haltPending.getD .bus))) .bus) .chain)) ∧
    (∀ reason, reason = s.walker.haltPending.getD (if o ≠ .done ∧ h.haltOnFail = true then .recordFailed else .bus) →
      exec (.retirement (errorAfter 3)) s = .next (withCause (withCause
        (left notified writes (halted (done (s.walker.retireCount + 1)) reason)) .bus) .chain))

/-- A bus error on a write of a retirement: the writes before it stand and no later one is made, the count does not change,
the request is gone, and the walker halts with reason BUS, with BUS and CHAIN, or after the take in progress; NOTIFY and
HALT_ON_FAIL have no effect. A walker that is HALTED stays so.
The model's own here: the take that waits for its request (log 8, log 9), the first of two halting events within a take gives
the reason (log 41). -/
def Obligations.RetirementBusError : Prop :=
  ∀ (s : State) (h : Held) (o : OutcomeCode) (d : Octet) (results : List (Nat × Word)) (rest : List Request) (k : Nat),
    s.regs.poreset = false → s.retire = .retire h o d results false :: rest → k < results.length + 3 →
    let t := { withCause s .bus with
      bus := {}
      retire := rest
      mem := ((retireWrites (s.walker.retireCount + 1) h o d results).take k).foldl (stored s) s.mem }
    (s.walker.status ≠ .halted → s.walker.walk ≠ .taking →
      exec (.retirement (errorAfter k)) s = .next { withCause t .chain with walker := halted s.walker .bus }) ∧
    (s.walker.status ≠ .halted → s.walker.walk = .taking →
      exec (.retirement (errorAfter k)) s = .next { t with
        walker := { s.walker with haltPending := some (s.walker.haltPending.getD .bus) } }) ∧
    (s.walker.status = .halted → exec (.retirement (errorAfter k)) s = .next t)

/-! ### The walk (01 1.4) -/

/-- The first look of a walk, on a bus without errors, from chain start or from the cursor's link: no candidate, a bad link,
a record not POSTED, a record that fails a common check, a record whose owner's slot, pool or list is full, a record found.
NOTIFY is bit 0 and HALT_ON_FAIL bit 1 of the flags, byte 2 of header word 0.
The model's own here: marks of due work (walkDue; log 3), the question about an outbound queue is left to the take (log 7), the
take that waits for its request (log 8, log 9). -/
def Obligations.LookOutcomes : Prop :=
  (∀ (off : Offset) (header : Word), (heldOf off header).offset = off ∧ (heldOf off header).notify = header.getLsbD 16 ∧
    (heldOf off header).haltOnFail = header.getLsbD 17) ∧
  ∀ (s : State) (a : Offset), s.regs.poreset = false → s.regs.run = true → s.walker.walkDue = true →
    s.walker.status ≠ .halted → s.walker.walk = .none →
    ((s.walker.chainStarted = false ∧ a = 0) ∨ ∃ c, s.walker.chainStarted = true ∧ s.walker.cursor = some c ∧ a = c + 4) →
    let link := s.mem.readWord (s.busAddress a)
    let off : Offset := link.setWidth 20
    let header := s.mem.readWord (s.busAddress off)
    let len := (wordByte header 3).toNat
    let w := { s.walker with walkDue := false, takes := 0 }
    let base := { s with bus := {} }
    let good := link.toNat % 4 = 0 ∧ 0x40 ≤ link.toNat ∧ link.toNat ≤ 0xFFFF0
    let r : WorkRecord := { held := heldOf off header, kind := wordByte header 1,
                            body := (List.range len).map fun j =>
                              s.mem.readWord (s.busAddress (off + 16 + BitVec.ofNat 20 (4 * j))) }
    let walk := exec (.frameBoundary false [.walk] []) s
    (link = 0 → walk = .next { base with walker := { w with status := .idle } }) ∧
    (link ≠ 0 → ¬ good → walk = .next { withCause base .chain with walker := halted w .badLink }) ∧
    (good → wordByte header 0 ≠ 0x01 → walk = .next { base with walker := { w with status := .waiting } }) ∧
    (∀ o, good → wordByte header 0 = 0x01 → commonChecks off header = .error o →
      walk = .next { base with
        walker := { w with status := .idle, cursor := some off, chainStarted := true, walk := .taking }
        retire := s.retire ++ [.retire (heldOf off header) o 0 [] true] }) ∧
    (∀ k, good → wordByte header 0 = 0x01 → commonChecks off header = .ok k → s.collectionFull r = true →
      walk = .next { base with walker := { w with status := .blocked } }) ∧
    (∀ k, good → wordByte header 0 = 0x01 → commonChecks off header = .ok k → s.collectionFull r = false →
      walk = .next { base with walker := { w with status := .idle, walk := .found r } })

/-- The common checks in their order: body length, end of the record, kind, minimum body; and the table of kinds, with code and
minimum body in words. -/
def Obligations.CommonChecks : Prop :=
  (let table : List (Octet × Kind × Nat) := [
     (0x01, .nop, 0), (0x02, .portSetup, 1), (0x03, .setNode, 3), (0x10, .editMap, 3), (0x11, .dropTag, 1), (0x12, .queryMap, 1),
     (0x20, .setActivity, 5), (0x21, .setScan, 1), (0x22, .scanControl, 1), (0x30, .openStream, 5), (0x31, .closeStream, 1),
     (0x40, .send, 1), (0x41, .listen, 16), (0x42, .probe, 1), (0x43, .recallPool, 0), (0x50, .supervise, 2), (0x51, .pulse, 1),
     (0x52, .setFallback, 1), (0x53, .fallbackControl, 1)]
   (∀ e ∈ table, kindOf e.1 = some e.2.1 ∧ e.2.1.minBody = e.2.2) ∧
   ∀ code : Octet, (∀ e ∈ table, e.1 ≠ code) → kindOf code = none) ∧
  ∀ (off : Offset) (header : Word),
    let len := (wordByte header 3).toNat
    (60 < len → commonChecks off header = .error .badField) ∧
    (len ≤ 60 → 0x100000 < off.toNat + 16 + 4 * len → commonChecks off header = .error .badOffset) ∧
    (len ≤ 60 → off.toNat + 16 + 4 * len ≤ 0x100000 → kindOf (wordByte header 1) = none →
      commonChecks off header = .error .badKind) ∧
    (∀ k, len ≤ 60 → off.toNat + 16 + 4 * len ≤ 0x100000 → kindOf (wordByte header 1) = some k → len < k.minBody →
      commonChecks off header = .error .badLength) ∧
    (∀ k, len ≤ 60 → off.toNat + 16 + 4 * len ≤ 0x100000 → kindOf (wordByte header 1) = some k → k.minBody ≤ len →
      commonChecks off header = .ok k)

/-- A walker that is HALTED, or whose RUN is 0, makes no look: nothing but the mark of the boundary changes. A bus error on any
read of a look halts the walker with reason BUS: the read of chain start or link, of header word 0, of header words 1 to 3 of a
POSTED record, or of a body word of one that passes the common checks.
The model's own here: marks of due work (walkDue; log 3). -/
def Obligations.NoLookAndFailedLook : Prop :=
  (∀ (s : State) (bus : List BusCycle), s.regs.poreset = false → s.walker.status = .halted ∨ s.regs.run = false →
    exec (.frameBoundary false [.walk] bus) s = .next { s with bus := {}, walker := { s.walker with walkDue := false } }) ∧
  ∀ s : State, s.regs.poreset = false → s.regs.run = true → s.walker.walkDue = true → s.walker.status ≠ .halted →
    s.walker.walk = .none →
    let fails (k : Nat) := exec (.frameBoundary false [.walk] (errorAfter k)) s = .next { withCause (withCause s .bus) .chain with
      bus := {}
      walker := halted { s.walker with takes := 0 } .bus }
    fails 0 ∧
    ∀ a : Offset,
      (s.walker.chainStarted = false ∧ a = 0) ∨ (∃ c, s.walker.chainStarted = true ∧ s.walker.cursor = some c ∧ a = c + 4) →
      let link := s.mem.readWord (s.busAddress a)
      let off : Offset := link.setWidth 20
      let header := s.mem.readWord (s.busAddress off)
      link.toNat % 4 = 0 → 0x40 ≤ link.toNat → link.toNat ≤ 0xFFFF0 →
        fails 1 ∧
        (wordByte header 0 = 0x01 →
          (∀ k, 2 ≤ k → k ≤ 4 → fails k) ∧
          ∀ kind k, commonChecks off header = .ok kind → 5 ≤ k → k < 5 + (wordByte header 3).toNat → fails k)

/-- A record whose owner would keep it and has no room is not taken: the walker becomes BLOCKED and nothing else changes; when the
pending-change slot, the LISTEN pool and the PROBE list count as full for a record.
The model's own here: slot, pool and list are asked at the look and again at the take, an outbound queue at the take (log 7). -/
def Obligations.FullCollectionBlocks : Prop :=
  (∀ (s : State) (r : WorkRecord), Found s .editMap r → 1 ≤ (r.byte 0 0).toNat → (r.byte 0 0).toNat ≤ 24 →
    1 + 2 * (r.byte 0 0).toNat ≤ r.body.length → s.switch.slot ≠ none → exec .editMap s = .next (blocked s)) ∧
  (∀ (s : State) (r : WorkRecord), Found s .dropTag r → r.byte 0 0 ≠ 0 → s.switch.slot ≠ none →
    exec .dropTag s = .next (blocked s)) ∧
  (∀ (s : State) (r : WorkRecord), Found s .fallbackControl r → r.byte 0 0 = 2 → s.supervision.fallback = true →
    s.switch.slot ≠ none → exec .recover s = .next (blocked s)) ∧
  (∀ (s : State) (r : WorkRecord), Found s .listen r → 8 ≤ s.router.listens.length → exec .listen s = .next (blocked s)) ∧
  (∀ (s : State) (r : WorkRecord) (p : Port), Found s .send r → sendFault r = none → s.route (r.byte 0 0) = .out p →
    4 ≤ s.channels[p].queue.length → exec .send s = .next (blocked s)) ∧
  (∀ (s : State) (r : WorkRecord) (p : Port), Found s .probe r → probeFault r = none → s.route (r.byte 0 0) = .out p →
    4 ≤ s.router.probes.length ∨ 4 ≤ s.channels[p].queue.length → exec .probe s = .next (blocked s)) ∧
  ∀ (s : State) (r : WorkRecord),
    (s.collectionFull r = true ↔
      (kindOf r.kind = some .editMap ∧ editMapFault r = none ∧ s.switch.slot ≠ none) ∨
      (kindOf r.kind = some .dropTag ∧ r.byte 0 0 ≠ 0 ∧ s.switch.slot ≠ none) ∨
      (kindOf r.kind = some .fallbackControl ∧ r.byte 0 0 = 2 ∧ s.supervision.fallback = true ∧ s.switch.slot ≠ none) ∨
      (kindOf r.kind = some .listen ∧ 8 ≤ s.router.listens.length) ∨
      (kindOf r.kind = some .probe ∧ probeFault r = none ∧ (∃ p, s.route (r.byte 0 0) = .out p) ∧ 4 ≤ s.router.probes.length))

/-! ### Takes -/

/-- A NOP that has passed the common checks is taken and retired at take with outcome DONE and detail 0, whatever its body
holds; it becomes the cursor, and its retirement raises RETIRE if NOTIFY is set.
The model's own here: the request queued at the take and served by a RETIREMENT of its own (log 8), the walker's state between
look and take (log 9). -/
def Obligations.NopIsTakenAndDone : Prop :=
  (∀ (s : State) (r : WorkRecord), Found s .nop r → exec .nop s = .next (ended s r .done 0)) ∧
  ∀ (s : State) (r : WorkRecord) (t u : State), Found s .nop r → r.held.notify = true → s.retire = [] →
    exec .nop s = .next t → exec (.retirement []) t = .next u → u.regs.attnPending &&& Cause.retire.bit = Cause.retire.bit

/-- PORT_SETUP: BAD_SLOT; STATE while the node number is 0; ENABLE clear moves the port to OFF from any other line state
and leaves an OFF port alone; ENABLE set moves it to QUIET afresh with the record's loop flag. The detail is the line
state code from before, a port that was READY or LINKED has its channel flushed, and the other ports are not touched. A port
that was LINKED was not LINKED at this boundary: its loud octets of the boundary are taken back, and its octets read at the
boundary become idle; a take between two boundaries leaves them.
The model's own here: the port seen as LINKED and what has been read of it (seen, counted, scanFrom; log 15), that the boundary
has passed (passed; log 49), marks of due work (sourcesDue, frameDue; log 3), the flush after the move (log 32), slot 0
and the marks of the frame under way stay (log 43), the take that waits for its request (log 8, log 9). -/
def Obligations.PortSetupTaken : Prop :=
  (∀ (s : State) (r : WorkRecord), Found s .portSetup r →
    (4 ≤ (r.byte 0 0).toNat → exec .portSetup s = .next (ended s r .badSlot 0)) ∧
    ∀ p : Port, (r.byte 0 0).toNat = p.val →
      let code := s.lines[p].line.code
      let moves (new : LineUnit) : Prop := ∃ t, exec .portSetup s = .next t ∧
        (let u := withCause (flushed ((taken s r).unsee p) p new) .port
         t = { u with retire := u.retire ++ [.retire r.held .done code [] true] }) ∧
        t.lines[p] = new ∧ (∀ q : Port, q ≠ p → t.lines[q] = s.lines[q]) ∧
        t.regs.attnPending = s.regs.attnPending ||| Cause.port.bit ∧ t.mem = s.mem ∧ t.switch = (s.unsee p).switch ∧
        t.activity = (s.unsee p).activity ∧ t.streams = (s.unsee p).streams ∧
        t.retire.getLast? = some (.retire r.held .done code [] true) ∧
        (s.lines[p].line.runs = true → t.channels[p].queue = [] ∧ t.channels[p].inFlight = none ∧
          t.channels[p].sender = .idle ∧ t.channels[p].receiver = .idle ∧ t.channels[p].holding = none)
      let afresh : LineUnit := { s.lines[p] with
        peer := 0, wakeCount := 0, quietCount := 0, peerSeen := false, identifyTimer := none, lostTimer := none,
        statusDue := true, seen := s.lines[p].seen && (s.lines[p].line != .linked || s.timer.passed) }
      ((r.byte 0 1).getLsbD 0 = true → s.router.node = 0 → exec .portSetup s = .next (ended s r .state code)) ∧
      ((r.byte 0 1).getLsbD 0 = false → s.lines[p].line = .off → exec .portSetup s = .next (ended s r .done code)) ∧
      ((r.byte 0 1).getLsbD 0 = true → s.router.node ≠ 0 → moves { afresh with
        line := .quiet, loop := (r.byte 0 1).getLsbD 1
        rx := { s.lines[p].rx with status := .hunting, markCount := 0, missCount := 0, candidate := none, latest := none } }) ∧
      ((r.byte 0 1).getLsbD 0 = false → s.lines[p].line ≠ .off → moves { afresh with
        line := .off, loop := false, rx := { s.lines[p].rx with status := .stopped, candidate := none, latest := none } })) ∧
  ∀ (s : State) (p : Port),
    (s.lines[p].line ≠ .linked ∨ s.lines[p].seen = false ∨ s.timer.passed = true → s.unsee p = s) ∧
    (s.lines[p].line = .linked → s.lines[p].seen = true → s.timer.passed = false →
      let t := s.unsee p
      t = { s with lines := s.lines.set p { s.lines[p] with seen := false }, activity := { s.activity with slots := t.activity.slots }
                   switch := { s.switch with srcSlots := t.switch.srcSlots, srcScans := t.switch.srcScans }
                   streams := t.streams } ∧
      (∀ k : SlotIndex, t.activity.slots[k] =
        if SlotIndex.port k = p ∧ s.activity.counted[k] = true
          then { s.activity.slots[k] with loud := s.activity.slots[k].loud - 1 } else s.activity.slots[k]) ∧
      (s.switch.sourcesDue = true → t.switch = s.switch) ∧
      (s.switch.sourcesDue = false → (∀ k : SlotIndex, t.switch.srcSlots[k] =
          if SlotIndex.port k = p then 0xFF else s.switch.srcSlots[k]) ∧
        ∀ g : GroupNo,
          (∀ k, s.switch.scanFrom[g] = some k → t.switch.srcScans[g] =
            if SlotIndex.port k = p then 0xFF else s.switch.srcScans[g]) ∧
          (s.switch.scanFrom[g] = none → t.switch.srcScans[g] = s.switch.srcScans[g])) ∧
      ∀ n : StreamNo,
        (∀ (d : StreamDesc) (k : SlotIndex) (older : List Octet) (o : Octet), s.streams[n].desc = some d → d.dir = .tap k →
          SlotIndex.port k = p → s.streams[n].frameDue = false → d.status = .opened → d.buffer = older ++ [o] →
          t.streams[n] = { s.streams[n] with desc := some { d with buffer := older ++ [0xFF] } }) ∧
        ((∀ (d : StreamDesc) (k : SlotIndex), s.streams[n].desc = some d → d.dir = .tap k → SlotIndex.port k = p →
          s.streams[n].frameDue = true ∨ d.status ≠ .opened ∨ d.buffer = []) → t.streams[n] = s.streams[n]))

/-- SET_NODE: the checks of R145 in their order; one that passes replaces the own node number and the direction table,
with the node number from before as detail.
The model's own here: the take that waits for its request (log 8, log 9). -/
def Obligations.SetNodeTaken : Prop :=
  ∀ (s : State) (r : WorkRecord), Found s .setNode r →
    let node := r.byte 0 0
    let entry (i : Fin 8) : Octet := r.byte (1 + i.val / 4) (i.val % 4)
    let goodEntry (i : Fin 8) : Prop := (entry i).toNat < 4 ∨ entry i = 0xFF
    (node = 0 ∨ node = 255 → exec .setNode s = .next (ended s r .badField 0)) ∧
    (∀ i : Fin 8, node ≠ 0 → node ≠ 255 → ¬ goodEntry i → (∀ j : Fin 8, j < i → goodEntry j) →
      exec .setNode s = .next (ended s r .badField (BitVec.ofNat 8 (i.val + 1)))) ∧
    (node ≠ 0 → node ≠ 255 → (∀ i, goodEntry i) → node ≠ s.router.node → (∃ p : Port, s.lines[p].line = .linked) →
      exec .setNode s = .next (ended s r .state 0)) ∧
    (node ≠ 0 → node ≠ 255 → (∀ i, goodEntry i) → (node = s.router.node ∨ ∀ p : Port, s.lines[p].line ≠ .linked) →
      ∃ table : Vector (Option Port) 8,
        exec .setNode s = .next { ended s r .done s.router.node with
          router := { s.router with node := node, table := table } } ∧
        ∀ i : Fin 8, (∀ p : Port, (entry i).toNat = p.val → table[i] = some p) ∧ (entry i = 0xFF → table[i] = none))

/-- EDIT_MAP: a count of 0 or above 24 fails BAD_FIELD, a body shorter than its list BAD_LENGTH, both at take with detail 0.
DROP_TAG: tag 0 fails BAD_FIELD. Else the change is copied into the empty pending-change slot and the HELD write asked for.
The model's own here: the take that waits for its request (log 8, log 9). -/
def Obligations.ChangesKept : Prop :=
  (∀ (s : State) (r : WorkRecord), Found s .editMap r →
      let count := (r.byte 0 0).toNat
      (count = 0 ∨ 24 < count → exec .editMap s = .next (ended s r .badField 0)) ∧
      (1 ≤ count → count ≤ 24 → r.body.length < 1 + 2 * count → exec .editMap s = .next (ended s r .badLength 0)) ∧
      (1 ≤ count → count ≤ 24 → 1 + 2 * count ≤ r.body.length → s.switch.slot = none →
        exec .editMap s = .next { kept s r with
          switch := { s.switch with
            slot := some {
              held := r.held
              change := .editList ((List.range count).map fun k => (r.word (1 + 2 * k), r.word (2 + 2 * k))) } } })) ∧
  (∀ (s : State) (r : WorkRecord), Found s .dropTag r →
      (r.byte 0 0 = 0 → exec .dropTag s = .next (ended s r .badField 0)) ∧
      (r.byte 0 0 ≠ 0 → s.switch.slot = none → exec .dropTag s = .next { kept s r with
        switch := { s.switch with slot := some { held := r.held, change := .dropTag (r.byte 0 0) } } }))

/-- QUERY_MAP on a bus without errors: a bad offset fails BAD_OFFSET and writes nothing; a good one brings the 120 words of
the map as it stands, in index order, and the number of entries with a source as detail. A bus error at word k ends
the image there, with BUS_ERROR, detail k and BUS attention. A word holds source kind, class and fallback mark, the two source
fields, and the tag.
The model's own here: the take that waits for its request (log 8, log 9). -/
def Obligations.QueryMapTaken : Prop :=
  (∀ (s : State) (r : WorkRecord), Found s .queryMap r →
    let off := r.word 0
    let bad := off.toNat % 4 ≠ 0 ∨ off.toNat < 0x40 ∨ 0x100000 < off.toNat + 480
    let image := (List.finRange 120).map fun k =>
      Write.word (off.setWidth 20 + BitVec.ofNat 20 (4 * k.val)) s.switch.map[k].imageWord
    (∀ bus, bad → exec (.queryMap bus) s = .next { ended s r .badOffset 0 with bus := {} }) ∧
    (¬ bad → exec (.queryMap []) s = .next { ended s r .done (BitVec.ofNat 8 s.switch.routed) with
      bus := {}
      mem := image.foldl (stored s) s.mem }) ∧
    (∀ k, ¬ bad → k < 120 → exec (.queryMap (errorAfter k)) s =
      .next { withCause (ended s r .busError (BitVec.ofNat 8 k)) .bus with
        bus := {}
        mem := (image.take k).foldl (stored s) s.mem })) ∧
  (∀ w : Switch, w.routed = (List.finRange 120).countP fun k => w.map[k].source != .none) ∧
  ∀ e : RouteEntry,
    let bytes (kind : Nat) (a b : Nat) : Prop := e.imageWord = BitVec.ofNat 32
      (kind + (if e.cls = .urgent then 0x40 else 0) + (if e.marked then 0x80 else 0) + 0x100 * a + 0x10000 * b +
        0x1000000 * e.tag.toNat)
    (e.source = .none → bytes 0 0 0) ∧
    (∀ k, e.source = .slot k → bytes 1 (SlotIndex.port k).val (SlotIndex.slot k).val) ∧
    (∀ n, e.source = .stream n → bytes 2 n.val 0) ∧ (∀ g, e.source = .scan g → bytes 3 g.val 0) ∧
    ∀ v, e.source = .const v → bytes 4 v.toNat 0

/-- SET_ACTIVITY: a threshold outside 2 to 127 fails with detail 1, an onset outside 1 to 64 with detail 2; else threshold,
onset, hang and watch set are replaced, nothing else of the monitor, and the detail is the number of ACTIVE slots.
The model's own here: the take that waits for its request (log 8, log 9). -/
def Obligations.SetActivityTaken : Prop :=
  (∀ a : Activity, a.activeCount = (List.finRange 120).countP fun k => a.slots[k].active) ∧
  ∀ (s : State) (r : WorkRecord), Found s .setActivity r →
    let t := (r.byte 0 0).toNat
    let o := (r.byte 0 1).toNat
    (t < 2 ∨ 127 < t → exec .setActivity s = .next (ended s r .badField 1)) ∧
    (2 ≤ t → t ≤ 127 → (o < 1 ∨ 64 < o) → exec .setActivity s = .next (ended s r .badField 2)) ∧
    (2 ≤ t → t ≤ 127 → 1 ≤ o → o ≤ 64 → ∃ watch : BitVec 120,
      exec .setActivity s = .next { ended s r .done (BitVec.ofNat 8 s.activity.activeCount) with
        activity := { s.activity with threshold := t, onset := o, hang := (r.byte 0 2).toNat, watch := watch } } ∧
      ∀ k : SlotIndex, watch.getLsbD k.val = (r.word (1 + k.val / 32)).getLsbD (k.val % 32))

/-- SET_SCAN: the checks of R96 in their order, and the failing member's number as detail; with every member good, the list
and both flags are replaced and the group is placed on the first eligible member from index 0 with its full dwell, or is EMPTY;
the detail is its index, or 0xFF. References of STREAM members change as losses of the old list and gains of the new one. A member
is eligible if its dwell is not 0 and SKIP_SILENT is clear, or it is a STREAM member, or its slot is ACTIVE.
The model's own here: a reading made ahead of the scan step is put right (log 47), the take that waits for its request (log 8,
log 9). -/
def Obligations.SetScanTaken : Prop :=
  (∀ (s : State) (r : WorkRecord), Found s .setScan r →
    let count := (r.byte 0 1).toNat
    (8 ≤ (r.byte 0 0).toNat → exec .setScan s = .next (ended s r .badField 0)) ∧
    ((r.byte 0 0).toNat < 8 → 8 < count → exec .setScan s = .next (ended s r .badField 0)) ∧
    ((r.byte 0 0).toNat < 8 → count ≤ 8 → r.body.length < 1 + count →
      exec .setScan s = .next (ended s r .badLength 0)) ∧
    (∀ i : Nat, (r.byte 0 0).toNat < 8 → count ≤ 8 → 1 + count ≤ r.body.length → i < count →
      (∀ j, j < i → ∃ m, parseMember (r.word (1 + j)) = .ok m ∧ ∀ n, m.source = .stream n → s.isOpenFeed n = true) →
      (∀ o, parseMember (r.word (1 + i)) = .error o → exec .setScan s = .next (ended s r o (BitVec.ofNat 8 (i + 1)))) ∧
      ∀ m n, parseMember (r.word (1 + i)) = .ok m → m.source = .stream n → s.isOpenFeed n = false →
        exec .setScan s = .next (ended s r .noStream (BitVec.ofNat 8 (i + 1)))) ∧
    ∀ (g : GroupNo) (ms : List Member), (r.byte 0 0).toNat = g.val → count ≤ 8 → 1 + count ≤ r.body.length →
      ms.length = count →
      (∀ i (hi : i < ms.length), parseMember (r.word (1 + i)) = .ok ms[i] ∧
        ∀ n, ms[i].source = .stream n → s.isOpenFeed n = true) →
      ∃ (group : ScanGroup) (streams : Vector Stream 16),
        exec .setScan s = .next { ended s r .done group.detail with
          groups := s.groups.set g group
          streams := streams
          switch := (s.readBeforeTake g).switch } ∧
        group.members = ms ∧ group.skipSilent = (r.byte 0 2).getLsbD 0 ∧ group.hold = (r.byte 0 2).getLsbD 1 ∧
        (∀ i, group.current = some i → group.eligibleAt s.activity i = true ∧ group.dwell = group.dwellAt i ∧
          ∀ j, j < i → group.eligibleAt s.activity j = false) ∧
        (group.current = none → group.dwell = 0 ∧ ∀ j, group.eligibleAt s.activity j = false) ∧
        ∀ n : StreamNo, streams[n].desc = s.streams[n].desc ∧ streams[n].current = s.streams[n].current ∧
          streams[n].refs = s.streams[n].refs - (s.groups[g].members.countP fun m => m.source == .stream n) +
            ms.countP fun m => m.source == .stream n) ∧
  (∀ (a : Activity) (g : ScanGroup),
    (∀ i, g.eligibleAt a i = true ↔ ∃ m, g.members[i]? = some m ∧ 0 < m.dwell ∧
      (g.skipSilent = false ∨ (∃ n, m.source = .stream n) ∨ ∃ k, m.source = .slot k ∧ a.slots[k].active = true)) ∧
    (∀ i m, g.members[i]? = some m → g.dwellAt i = m.dwell) ∧
    (g.current = none → g.detail = 0xFF) ∧ ∀ i, g.current = some i → g.detail = BitVec.ofNat 8 i) ∧
  ∀ w : Word,
    let kind := (wordByte w 0).toNat
    let a := (wordByte w 1).toNat
    let b := (wordByte w 2).toNat
    let dwell := (wordByte w 3).toNat
    (kind ≠ 1 → kind ≠ 2 → parseMember w = .error .badField) ∧
    (kind = 1 → 3 < a ∨ b < 2 ∨ 31 < b → parseMember w = .error .badSlot) ∧
    (∀ k : SlotIndex, kind = 1 → a = (SlotIndex.port k).val → b = (SlotIndex.slot k).val →
      parseMember w = .ok { source := .slot k, dwell := dwell }) ∧
    (kind = 2 → 15 < a → parseMember w = .error .badField) ∧
    ∀ n : StreamNo, kind = 2 → a = n.val → parseMember w = .ok { source := .stream n, dwell := dwell }

/-- SCAN_CONTROL: a group number above 7, or an action code outside 1 to 4, fails BAD_FIELD. HOLD and RELEASE set and clear the HOLD
flag, with the index of the current member, or 0xFF, as detail. STEP makes the onward search of a running group, which begins
after the current member and ends with it, or the search of an EMPTY group from index 0, whatever HOLD says: the first
eligible member becomes current with its full dwell, and if there is none the group is EMPTY. HOLD on a held group and RELEASE on one not
held change nothing. SELECT fails BAD_FIELD on an index above 7 and STATE on a member that does not exist or is not eligible, and
makes an eligible member current.
The model's own here: a reading made ahead of the scan step is put right (log 47), the take that waits for its request (log 8,
log 9), which command takes an action code outside the table (log 24). -/
def Obligations.ScanControlTaken : Prop :=
  (∀ (s : State) (r : WorkRecord), Found s .scanControl r →
      (∀ c ∈ [Instr.scanControlHold, .scanControlRelease, .scanControlStep, .scanControlSelect],
        r.byte 0 1 = 0 ∨ 4 < (r.byte 0 1).toNat → exec c s = .next (ended s r .badField 0)) ∧
      (∀ x ∈ [((1 : Octet), Instr.scanControlHold), (2, .scanControlRelease), (3, .scanControlStep), (4, .scanControlSelect)],
        8 ≤ (r.byte 0 0).toNat → r.byte 0 1 = x.1 → exec x.2 s = .next (ended s r .badField 0)) ∧
      (∀ g : GroupNo, (r.byte 0 0).toNat = g.val → r.byte 0 1 = 1 → s.groups[g].hold = true →
        exec .scanControlHold s = .next (ended s r .done s.groups[g].detail)) ∧
      (∀ g : GroupNo, (r.byte 0 0).toNat = g.val → r.byte 0 1 = 2 → s.groups[g].hold = false →
        exec .scanControlRelease s = .next (ended s r .done s.groups[g].detail)) ∧
      (∀ g : GroupNo, (r.byte 0 0).toNat = g.val → r.byte 0 1 = 1 → s.groups[g].hold = false →
        exec .scanControlHold s = .next { ended s r .done s.groups[g].detail with
          groups := s.groups.set g { s.groups[g] with hold := true }, switch := (s.readBeforeTake g).switch }) ∧
      (∀ g : GroupNo, (r.byte 0 0).toNat = g.val → r.byte 0 1 = 2 → s.groups[g].hold = true →
        exec .scanControlRelease s = .next { ended s r .done s.groups[g].detail with
          groups := s.groups.set g { s.groups[g] with hold := false }, switch := (s.readBeforeTake g).switch })) ∧
  (∀ (s : State) (r : WorkRecord) (g : GroupNo), Found s .scanControl r → (r.byte 0 0).toNat = g.val → r.byte 0 1 = 3 →
      let old := s.groups[g]
      ∃ group : ScanGroup,
        exec .scanControlStep s = .next { ended s r .done group.detail with
          groups := s.groups.set g group, switch := (s.readBeforeTake g).switch } ∧
        group = { old with current := group.current, dwell := group.dwell } ∧
        (∀ i, group.current = some i → i < old.members.length ∧ old.eligibleAt s.activity i = true ∧
          group.dwell = old.dwellAt i) ∧
        (group.current = none → group.dwell = 0 ∧ ∀ j, old.eligibleAt s.activity j = false) ∧
        (∀ i, old.current = none → group.current = some i → ∀ j, j < i → old.eligibleAt s.activity j = false) ∧
        (∀ c d i, old.current = some c → d < old.members.length → group.current = some i →
          i = (c + 1 + d) % old.members.length → (∀ e, e < d → (c + 1 + e) % old.members.length ≠ i) →
          ∀ e, e < d → old.eligibleAt s.activity ((c + 1 + e) % old.members.length) = false)) ∧
  (∀ (s : State) (r : WorkRecord) (g : GroupNo), Found s .scanControl r → (r.byte 0 0).toNat = g.val → r.byte 0 1 = 4 →
      let i := (r.byte 0 2).toNat
      (8 ≤ i → exec .scanControlSelect s = .next (ended s r .badField 0)) ∧
      (i < 8 → s.groups[g].eligibleAt s.activity i = false → exec .scanControlSelect s = .next (ended s r .state 0)) ∧
      (i < 8 → s.groups[g].eligibleAt s.activity i = true →
        exec .scanControlSelect s = .next { ended s r .done (r.byte 0 2) with
          groups := s.groups.set g { s.groups[g] with current := some i, dwell := s.groups[g].dwellAt i }
          switch := (s.readBeforeTake g).switch }))

/-- OPEN_STREAM: the checks of R110 in their order, with their details. One that passes them, on a bus without errors: the
descriptor is filled from the body, the exchange writes state and break flag 0 and leaves the owner bytes, word 1 is written
with fill 0 and last half 0xFF, and the detail is the state. A bus error on the exchange or on word 1 leaves the stream in FAULT
with BUS_ERROR, detail 5, STREAM and BUS.
The model's own here: the take that waits for its request (log 8, log 9), an exchange is one bus cycle (log 23). -/
def Obligations.OpenStreamTaken : Prop :=
  ∀ (s : State) (r : WorkRecord), Found s .openStream r →
    (∀ bus, 16 ≤ (r.byte 0 0).toNat → exec (.openStream bus) s = .next { ended s r .badField 0 with bus := {} }) ∧
    ∀ n : StreamNo, (r.byte 0 0).toNat = n.val →
      let len := (r.byte 1 2).toNat + 256 * (r.byte 1 3).toNat
      let good (w : Word) (size : Nat) : Prop := w.toNat % 4 = 0 ∧ 0x40 ≤ w.toNat ∧ w.toNat + size ≤ 0x100000
      let goodDir := r.byte 0 1 = 1 ∨ r.byte 0 1 = 2
      let goodLen := 8 ≤ len ∧ len ≤ 1024 ∧ len % 4 = 0
      let goodSlot := r.byte 0 1 = 1 → (r.byte 1 0).toNat < 4 ∧ 2 ≤ (r.byte 1 1).toNat ∧ (r.byte 1 1).toNat ≤ 31
      let fails (o : OutcomeCode) (detail : Octet) : Prop :=
        ∀ bus, exec (.openStream bus) s = .next { ended s r o detail with bus := {} }
      (¬ goodDir → fails .badField 0) ∧
      (goodDir → s.streams[n].desc ≠ none → fails .inUse 0) ∧
      (goodDir → s.streams[n].desc = none →
        (¬ goodLen → fails .badField 0) ∧ (goodLen → ¬ goodSlot → fails .badSlot 0) ∧
        (goodLen → goodSlot →
          (¬ good (r.word 2) len → fails .badOffset 1) ∧ (good (r.word 2) len → ¬ good (r.word 3) len → fails .badOffset 2) ∧
          (good (r.word 2) len → good (r.word 3) len → ¬ good (r.word 4) 8 → fails .badOffset 3) ∧
          (good (r.word 2) len → good (r.word 3) len → good (r.word 4) 8 → ∃ dir : Direction,
            (r.byte 0 1 = 2 → dir = .feed) ∧
            (r.byte 0 1 = 1 → ∃ k : SlotIndex, dir = .tap k ∧ (SlotIndex.port k).val = (r.byte 1 0).toNat ∧
              (SlotIndex.slot k).val = (r.byte 1 1).toNat) ∧
            let d : StreamDesc := {
              status := .opened, dir := dir, halfA := (r.word 2).setWidth 20, halfB := (r.word 3).setWidth 20, len := len
              block := (r.word 4).setWidth 20, notify := (r.byte 0 2).getLsbD 0 }
            let w := s.mem.readWord (s.busAddress d.block)
            let run := wordByte w 0 = 0
            let status : StreamStatus := if run then .opened else if d.dir = .feed then .muted else .stalled
            let m1 := s.mem.writeWord (s.busAddress d.block) (wordOf (wordByte w 0) (wordByte w 1) status.code 0)
            let failed (m : Memory) : State := { withCause (withCause (ended s r .busError 5) .stream) .bus with
              bus := {}
              mem := m
              streams := s.streams.set n { desc := some { d with status := .fault } } }
            exec (.openStream []) s = .next { ended s r .done status.code with
              bus := {}
              mem := m1.writeWord (s.busAddress (d.block + 4)) 0x00FF0000
              streams := s.streams.set n
                { desc := some { d with status := status,
                                        accesses := if d.dir = .feed ∧ run then [.getWord d.halfA 0] else [] } } } ∧
            exec (.openStream (errorAfter 0)) s = .next (failed s.mem) ∧
            exec (.openStream (errorAfter 1)) s = .next (failed m1))))

/-- CLOSE_STREAM: BAD_FIELD, NO_STREAM and IN_USE leave the stream as it stood; a stream in FAULT is freed without any access.
Any other with nothing outstanding is closed by its writes and then an exchange with state CLOSED, and its number is free: an OPEN
stream writes, in a TAP, the partial word of its current half filled up with idle octets, then word 1 with fill and half, and
the exchange makes the half HOST's; a STALLED or MUTED one writes word 1 for the half last handed over, and no owner. A bus
error ends the close at that access, with BUS_ERROR, the state's code and BUS, and the number is free.
The model's own here: marks of due work (frameDue; log 3), the finished half (log 20), the take that waits for its
request (log 8, log 9), what is still outstanding ends first (log 22), an exchange is one bus cycle (log 23). -/
def Obligations.CloseStreamTaken : Prop :=
  ∀ (s : State) (r : WorkRecord), Found s .closeStream r →
    (∀ bus, 16 ≤ (r.byte 0 0).toNat → exec (.closeStream bus) s = .next { ended s r .badField 0 with bus := {} }) ∧
    ∀ n : StreamNo, (r.byte 0 0).toNat = n.val →
      let freed := s.streams.set n { desc := none, current := 0xFF, refs := 0, frameDue := false }
      (∀ bus, s.streams[n].desc = none → exec (.closeStream bus) s = .next { ended s r .noStream 0 with bus := {} }) ∧
      (∀ bus d, s.streams[n].desc = some d → 0 < s.streams[n].refs →
        exec (.closeStream bus) s = .next { ended s r .inUse 0 with bus := {} }) ∧
      (∀ bus d, s.streams[n].desc = some d → s.streams[n].refs = 0 → d.status = .fault → d.accesses = [] →
        exec (.closeStream bus) s = .next { ended s r .done 5 with bus := {}, streams := freed }) ∧
      ∀ d, s.streams[n].desc = some d → s.streams[n].refs = 0 → d.status ≠ .fault → d.accesses = [] →
        d.status ≠ .opened ∨ d.finished = false →
        let word1 (fill : Nat) (half : Octet) :=
          Write.word (d.block + 4) (wordOf (BitVec.ofNat 8 fill) (BitVec.ofNat 8 (fill / 256)) half 0)
        let halfOffset := if d.half = .a then d.halfA else d.halfB
        let opened := d.status = .opened
        let made (ws : List Write) := ws.foldl (stored s) s.mem
        ∃ writes : List Write,
          (opened → d.dir = .feed ∨ d.position % 4 = 0 → writes = [word1 d.position (if d.half = .a then 0 else 1)]) ∧
          (∀ k, opened → d.dir = .tap k → d.position % 4 ≠ 0 → writes = [
            .word (halfOffset + BitVec.ofNat 20 (4 * (d.position / 4)))
              (d.buffer.getD 3 0xFF ++ d.buffer.getD 2 0xFF ++ d.buffer.getD 1 0xFF ++ d.buffer.getD 0 0xFF),
            word1 d.position (if d.half = .a then 0 else 1)]) ∧
          (¬ opened → d.lastHanded = none → writes = [word1 0 0xFF]) ∧
          (∀ h, ¬ opened → d.lastHanded = some h → writes = [word1 d.len (if h = .a then 0 else 1)]) ∧
          (let w := (made writes).readWord (s.busAddress d.block)
           let a := if opened ∧ d.half = .a then 1 else wordByte w 0
           let b := if opened ∧ d.half = .b then 1 else wordByte w 1
           exec (.closeStream []) s = .next { ended s r .done d.status.code with
             bus := {}
             mem := (made writes).writeWord (s.busAddress d.block) (wordOf a b 4 (wordByte w 3))
             streams := freed }) ∧
          ∀ k, k ≤ writes.length → exec (.closeStream (errorAfter k)) s =
            .next { withCause (ended s r .busError d.status.code) .bus with
              bus := {}
              mem := made (writes.take k)
              streams := freed }

/-- The routing decision: at home if the destination is the own node number; else the entry at the highest bit in which the
two differ gives NO_ROUTE, LINK_DOWN or the port. A delivery's body results: word 0 is source, kind, length and hop count;
payload byte k stands at byte 4 + k of the body, and the bytes past the payload in its last word are 0. A message in a holding
is delivered, answered, matched, forwarded with its hop count lowered by 1, dropped, or waits for the pool or for a queue; a
dropped DATA brings a RETURNED; a message that the router makes is routed once and neither waits nor is lowered. -/
def Obligations.RoutingAndDelivery : Prop :=
  (∀ (s : State) (dest : Octet),
      (dest = s.router.node → s.route dest = .atHome) ∧
      ∀ i : Fin 8, (dest ^^^ s.router.node).getLsbD i = true → (∀ j : Fin 8, i < j → (dest ^^^ s.router.node).getLsbD j = false) →
        (s.router.table[i] = none → s.route dest = .noRoute) ∧
        (∀ p, s.router.table[i] = some p → s.lines[p].line ≠ .linked → s.route dest = .linkDown) ∧
        (∀ p, s.router.table[i] = some p → s.lines[p].line = .linked → s.route dest = .out p)) ∧
  (∀ m : Message, m.payload.length ≤ 48 →
      (deliveryResults m).length = 1 + (m.payload.length + 3) / 4 ∧
      (∀ e ∈ (deliveryResults m).head?, e = (0, wordOf m.source (m.kind.nibble.setWidth 8) (BitVec.ofNat 8 m.payload.length)
        (m.hop.setWidth 8))) ∧
      ∀ j, j < (m.payload.length + 3) / 4 → ∃ w, (deliveryResults m)[1 + j]? = some (1 + j, w) ∧
        ∀ k, k < 4 → wordByte w k = m.payload.getD (4 * j + k) 0) ∧
  (∀ (s : State) (q : Port), s.queueRoom q = true ↔ s.lines[q].line = .linked ∧ s.channels[q].queue.length < 4) ∧
  (∀ (s : State) (m : Message),
      let queued (q : Port) : State := { s with channels := s.channels.set q { s.channels[q] with
        queue := s.channels[q].queue ++ [{ msg := m, origin := .router }] } }
      (∀ q, s.route m.dest = .out q → s.queueRoom q = true → s.routeMade m = queued q) ∧
      (∀ q, s.route m.dest = .out q → s.queueRoom q = false → s.routeMade m = s) ∧
      (s.route m.dest = .noRoute ∨ s.route m.dest = .linkDown → s.routeMade m = s) ∧
      (s.route m.dest = .atHome → m.kind = .returned →
        (s.router.listens = [] → s.routeMade m = s) ∧
        ∀ l ls, s.router.listens = l :: ls → s.routeMade m = { s with
          router := { s.router with listens := ls }
          retire := s.retire ++ [.retire l .done 0xFF (deliveryResults m) false] }) ∧
      (s.route m.dest = .atHome → m.kind = .probeReply → s.routeMade m = s.matchReply m) ∧
      (let answered (e : ProbeEntry) := e.target = m.source ∧ m.payload.head? = some e.serial
       ((∀ e ∈ s.router.probes, ¬ answered e) → s.matchReply m = s) ∧
       ∀ before e after, s.router.probes = before ++ e :: after → answered e → (∀ f ∈ before, ¬ answered f) →
         s.matchReply m = { s with
           router := { s.router with probes := before ++ after }
           retire := s.retire ++ [.retire e.held .done (BitVec.ofNat 8 (15 - m.hop.toNat)) [] false] }) ∧
      ∀ o : OutcomeCode,
        (m.kind ≠ .data → s.dropMessage m o = s) ∧
        (m.kind = .data → s.dropMessage m o = s.routeMade {
          dest := m.source, source := s.router.node, hop := 15, kind := .returned
          payload := [m.dest, o.code, BitVec.ofNat 8 m.payload.length] ++ m.payload.take 8 })) ∧
  ∀ (s : State) (p : Port) (m : Message),
    let home := s.route m.dest = .atHome
    (∀ l ls, home → m.kind = .data ∨ m.kind = .returned → s.router.listens = l :: ls → s.routeInbound p m = (none, { s with
      router := { s.router with listens := ls }
      retire := s.retire ++ [.retire l .done (BitVec.ofNat 8 p.val) (deliveryResults m) false] })) ∧
    (home → m.kind = .data ∨ m.kind = .returned → s.router.listens = [] → s.routeInbound p m = (some .pool, s)) ∧
    (home → m.kind = .probe → s.routeInbound p m = (none, s.routeMade {
      dest := m.source, source := s.router.node, hop := 15, kind := .probeReply
      payload := match m.payload with
        | [serial] => [serial]
        | _ => [0] })) ∧
    (home → m.kind = .probeReply → s.routeInbound p m = (none, s.matchReply m)) ∧
    (s.route m.dest = .noRoute → s.routeInbound p m = (none, s.dropMessage m .noRoute)) ∧
    (s.route m.dest = .linkDown → s.routeInbound p m = (none, s.dropMessage m .linkDown)) ∧
    (∀ q, s.route m.dest = .out q → m.hop.toNat ≤ 1 → s.routeInbound p m = (none, s.dropMessage m .hopsExhausted)) ∧
    (∀ q, s.route m.dest = .out q → 2 ≤ m.hop.toNat → s.queueRoom q = false → s.routeInbound p m = (some (.queue q), s)) ∧
    (∀ q, s.route m.dest = .out q → 2 ≤ m.hop.toNat → s.queueRoom q = true → s.routeInbound p m = (none, { s with
      channels := s.channels.set q { s.channels[q] with
        queue := s.channels[q].queue ++ [{ msg := { m with hop := m.hop - 1 }, origin := .router }] } }))

/-- SEND: the checks of R154 in their order, and the decision of R155: delivered here into the oldest LISTEN, NO_LISTENER,
NO_ROUTE, LINK_DOWN, or claimed into the port's queue and kept.
The model's own here: the take that waits for its request (log 8, log 9). -/
def Obligations.SendTaken : Prop :=
  ∀ (s : State) (r : WorkRecord), Found s .send r →
    let n := (r.byte 0 3).toNat
    let m : Message := { dest := r.byte 0 0, source := s.router.node, hop := (r.byte 0 1).setWidth 4, kind := .data,
                         payload := (List.range n).map fun k => r.byte (1 + k / 4) (k % 4) }
    let good := r.byte 0 0 ≠ 0 ∧ r.byte 0 0 ≠ 255 ∧ 1 ≤ (r.byte 0 1).toNat ∧ (r.byte 0 1).toNat ≤ 15 ∧ r.byte 0 2 = 2 ∧ n ≤ 48
    (¬ good → exec .send s = .next (ended s r .badField 0)) ∧
    (good → r.body.length < 1 + (n + 3) / 4 → exec .send s = .next (ended s r .badLength 0)) ∧
    (good → 1 + (n + 3) / 4 ≤ r.body.length →
      (s.route m.dest = .atHome → s.router.listens = [] → exec .send s = .next (ended s r .noListener 0)) ∧
      (∀ l ls, s.route m.dest = .atHome → s.router.listens = l :: ls →
        exec .send s = .next { taken s r with
          router := { s.router with listens := ls }
          retire := s.retire ++ [.retire l .done 0xFF (deliveryResults m) false,
                                 .retire r.held .done (BitVec.ofNat 8 (5 + n)) [] true] }) ∧
      (s.route m.dest = .noRoute → exec .send s = .next (ended s r .noRoute 0)) ∧
      (s.route m.dest = .linkDown → exec .send s = .next (ended s r .linkDown 0)) ∧
      (∀ p, s.route m.dest = .out p → s.channels[p].queue.length < 4 →
        exec .send s = .next { kept s r with
          channels := s.channels.set p { s.channels[p] with
            queue := s.channels[p].queue ++ [{ msg := m, origin := .send r.held }] } }))

/-- LISTEN with room joins the tail of the pool and is kept; RECALL retires the whole pool from the oldest as RECALLED, and
then itself with the number recalled.
The model's own here: the take that waits for its request (log 8, log 9). -/
def Obligations.ListenAndRecallTaken : Prop :=
  (∀ (s : State) (r : WorkRecord), Found s .listen r → s.router.listens.length < 8 →
    exec .listen s = .next { kept s r with router := { s.router with listens := s.router.listens ++ [r.held] } }) ∧
  ∀ (s : State) (r : WorkRecord), Found s .recallPool r →
    exec .recallPool s = .next { taken s r with
      router := { s.router with listens := [] }
      retire := s.retire ++ (s.router.listens.map fun h => Request.retire h .recalled 0 [] false) ++
        [.retire r.held .done (BitVec.ofNat 8 s.router.listens.length) [] true] }

/-- PROBE: BAD_FIELD, DONE at home, NO_ROUTE and LINK_DOWN end it at take with detail 0; else its message is claimed and it
joins the PROBE list with its full timeout.
The model's own here: one at home makes no reply that an older PROBE could match (log 45), the block boundary of its take does
not count (log 37), the take that waits for its request (log 8, log 9). -/
def Obligations.ProbeTaken : Prop :=
  ∀ (s : State) (r : WorkRecord), Found s .probe r →
    let good := r.byte 0 0 ≠ 0 ∧ r.byte 0 0 ≠ 255 ∧ r.byte 0 2 ≠ 0
    (¬ good → exec .probe s = .next (ended s r .badField 0)) ∧
    (good → s.route (r.byte 0 0) = .atHome → exec .probe s = .next (ended s r .done 0)) ∧
    (good → s.route (r.byte 0 0) = .noRoute → exec .probe s = .next (ended s r .noRoute 0)) ∧
    (good → s.route (r.byte 0 0) = .linkDown → exec .probe s = .next (ended s r .linkDown 0)) ∧
    (∀ p, good → s.route (r.byte 0 0) = .out p → s.channels[p].queue.length < 4 → s.router.probes.length < 4 →
      exec .probe s = .next { kept s r with
        channels := s.channels.set p { s.channels[p] with
          queue := s.channels[p].queue ++ [{
            msg := { dest := r.byte 0 0, source := s.router.node, hop := 15, kind := .probe, payload := [r.byte 0 1] }
            origin := .router }] }
        router := { s.router with probes := s.router.probes ++ [{
          held := r.held, target := r.byte 0 0, serial := r.byte 0 1, blocks := (r.byte 0 2).toNat }] } })

/-- SUPERVISE: the checks of R162 give BAD_FIELD with the detail of the first that fails; one that passes sets count 0 and a
fresh period, stores its settings (the pulse length with FALLBACK_AND_PULSE only), and reports the count from before;
mode OFF stores the mode alone.
The model's own here: marks of due work (advanceDue; log 3), the take that waits for its request (log 8, log 9). -/
def Obligations.SuperviseTaken : Prop :=
  ∀ (s : State) (r : WorkRecord), Found s .supervise r →
    let mode := (r.byte 0 0).toNat
    let w := (r.byte 0 1).toNat
    let thr := (r.byte 0 2).toNat
    let act := (r.byte 1 0).toNat
    let len := (r.byte 1 1).toNat
    let seed := (r.byte 1 2).toNat
    let sel := (r.byte 1 3).toNat
    let fails (d : Octet) := exec .supervise s = .next (ended s r .badField d)
    let on := mode = 1 ∨ mode = 2
    let goodW := w % 2 = 0 ∧ 2 ≤ w ∧ w ≤ 254
    let goodThr := 1 ≤ thr ∧ thr ≤ 15
    let goodAct := act = 1 ∨ act = 2
    let goodLen := act = 2 → 1 ≤ len ∧ len ≤ 15
    let goodSeed := 1 ≤ seed ∧ seed ≤ 15
    let fresh : Supervision := { s.supervision with
      errorCount := 0, position := 0, phase := .first, bad := false, index := 3, wordDue := true, advanceDue := false }
    (2 < mode → fails 1) ∧ (on → ¬ goodW → fails 2) ∧ (on → goodW → ¬ goodThr → fails 3) ∧
    (on → goodW → goodThr → ¬ goodAct → fails 4) ∧ (on → goodW → goodThr → goodAct → ¬ goodLen → fails 5) ∧
    (on → goodW → goodThr → goodAct → goodLen → ¬ goodSeed → fails 6) ∧
    (on → goodW → goodThr → goodAct → goodLen → goodSeed → 1 < sel → fails 7) ∧
    (mode = 0 → exec .supervise s = .next { ended s r .done (BitVec.ofNat 8 s.supervision.errorCount) with
      supervision := { fresh with mode := .off } }) ∧
    (on → goodW → goodThr → goodAct → goodLen → goodSeed → sel ≤ 1 →
      exec .supervise s = .next { ended s r .done (BitVec.ofNat 8 s.supervision.errorCount) with
        supervision := { fresh with
          mode := if mode = 1 then .window else .challenge
          period := w
          threshold := thr
          action := if act = 2 then .fallbackAndPulse else .fallback
          pulseLength := if act = 2 then len else s.supervision.pulseLength
          q := (r.byte 1 2).setWidth 4
          selector := if sel = 1 then .b else .a } })

/-- PULSE in mode OFF, in a bad period, and in WINDOW mode. A good end clears the mark, starts a fresh period and lowers the
count, with SUPERVISION attention only if the count changes; Q does not move in WINDOW mode.
The model's own here: marks of due work (advanceDue; log 3), the take that waits for its request (log 8, log 9). -/
def Obligations.PulseOffBadAndWindow : Prop :=
  ∀ (s : State) (r : WorkRecord), Found s .pulse r →
    let v := s.supervision
    (v.mode = .off → exec .pulse s = .next (ended s r .state 0)) ∧
    (v.mode ≠ .off → v.bad = true → exec .pulse s = .next (ended s r .done 3)) ∧
    (v.mode = .window → v.bad = false → v.phase = .first →
      exec .pulse s = .next { ended s r .done 2 with supervision := { v with bad := true, wordDue := true } }) ∧
    (v.mode = .window → v.bad = false → v.phase = .second →
      exec .pulse s = .next { (if v.errorCount = 0 then ended s r .done 1 else withCause (ended s r .done 1) .supervision) with
        supervision := { v with errorCount := v.errorCount - 1, position := 0, phase := .first, bad := false, index := 3,
                                wordDue := true, advanceDue := false } })

/-- PULSE in CHALLENGE mode, by phase, expected response index and response: the responses of R167, the effect of each
verdict, and the step of the shift register at a good end; a period that reaches its end is judged bad.
The model's own here: marks of due work (advanceDue; log 3), PERIOD_END makes the last count of its period (log 14), the request
queued at the take (log 8), the walker's state between look and take (log 9). -/
def Obligations.PulseChallenge : Prop :=
  (∀ (q : BitVec 4) (k : Nat), k < 4 →
    response q k = BitVec.ofNat 8 (16 * ((q.toNat + k) % 16) + ((15 - q.toNat) ^^^ k))) ∧
  (response 9 3 = 0xC5 ∧ response 9 2 = 0xB4 ∧ response 9 1 = 0xA7 ∧ response 9 0 = 0x96) ∧
  (∀ s : State, s.regs.poreset = false → s.supervision.advanceDue = true →
    s.supervision.period * 64 ≤ s.supervision.position + 1 →
    ∃ t, exec .periodEnd s = .next t ∧ t.supervision.errorCount = min 15 (s.supervision.errorCount + 1) ∧
      t.supervision.position = 0 ∧ t.supervision.phase = .first ∧ t.supervision.bad = false ∧ t.supervision.index = 3 ∧
      t.supervision.q = s.supervision.q) ∧
  ∀ (s : State) (r : WorkRecord), Found s .pulse r → s.supervision.mode = .challenge → s.supervision.bad = false →
    let v := s.supervision
    let resp := r.byte 0 0
    let error := exec .pulse s = .next { ended s r .done 2 with supervision := { v with bad := true, wordDue := true } }
    (v.phase = .first → v.index ≠ 0 → resp = response v.q v.index →
      exec .pulse s = .next { ended s r .done 1 with supervision := { v with index := v.index - 1, wordDue := true } }) ∧
    (v.phase = .first → v.index ≠ 0 → resp ≠ response v.q v.index → error) ∧
    (v.phase = .first → v.index = 0 → error) ∧
    (v.phase = .second → v.index ≠ 0 → error) ∧
    (v.phase = .second → v.index = 0 → resp ≠ response v.q 0 → error) ∧
    (v.phase = .second → v.index = 0 → resp = response v.q 0 →
      exec .pulse s = .next { (if v.errorCount = 0 then ended s r .done 1 else withCause (ended s r .done 1) .supervision) with
        supervision := { v with
          errorCount := v.errorCount - 1, position := 0, phase := .first, bad := false, index := 3, wordDue := true,
          advanceDue := false
          q := (v.q <<< 1) ||| (BitVec.ofBool (v.q.getLsbD 3 ^^ (match v.selector with
            | .a => v.q.getLsbD 2
            | .b => v.q.getLsbD 0))).setWidth 4 } })

/-- SET_FALLBACK: STATE while FALLBACK is set, a count above 32, a short body, and the first failing entry with its number; a
table of good entries with distinct targets
replaces the old one, with the count as detail. ENTER: STATE while FALLBACK is set; else FALLBACK and the overlay order are
set, the word is due, SUPERVISION is raised, the detail is the number of table entries, and TRIPPED, RESET_OUT, count, period
and challenge stay. RECOVER: STATE while FALLBACK is clear; else kept in the empty pending-change slot. Another action code
fails BAD_FIELD.
The model's own here: the take that waits for its request (log 8, log 9), which command takes an action code outside
the table (log 24). -/
def Obligations.FallbackRecordsTaken : Prop :=
  (∀ (s : State) (r : WorkRecord), Found s .setFallback r →
      let count := (r.byte 0 0).toNat
      (s.supervision.fallback = true → exec .setFallback s = .next (ended s r .state 0)) ∧
      (s.supervision.fallback = false → 32 < count → exec .setFallback s = .next (ended s r .badField 0)) ∧
      (s.supervision.fallback = false → count ≤ 32 → r.body.length < 1 + count →
        exec .setFallback s = .next (ended s r .badLength 0)) ∧
      (∀ es : List FallbackEntry, s.supervision.fallback = false → count ≤ 32 → 1 + count ≤ r.body.length →
        es.length = count → (∀ i (hi : i < es.length), parseFallback (r.word (1 + i)) = .ok es[i]) →
        (es.map fun e => e.target).Nodup →
        exec .setFallback s = .next { ended s r .done (r.byte 0 0) with supervision := { s.supervision with table := es } }) ∧
      (∀ es : List FallbackEntry, s.supervision.fallback = false → count ≤ 32 → 1 + count ≤ r.body.length →
        es.length < count → (∀ i (hi : i < es.length), parseFallback (r.word (1 + i)) = .ok es[i]) →
        (es.map fun e => e.target).Nodup →
        (∀ o, parseFallback (r.word (1 + es.length)) = .error o →
          exec .setFallback s = .next (ended s r o (BitVec.ofNat 8 (es.length + 1)))) ∧
        ∀ e, parseFallback (r.word (1 + es.length)) = .ok e → e.target ∈ es.map (fun e => e.target) →
          exec .setFallback s = .next (ended s r .duplicate (BitVec.ofNat 8 (es.length + 1))))) ∧
  (∀ w : Word,
      let kind := (wordByte w 1).toNat
      let a := (wordByte w 2).toNat
      let b := (wordByte w 3).toNat
      let fails (o : OutcomeCode) := parseFallback w = .error o
      (119 < (wordByte w 0).toNat → fails .badSlot) ∧
      ∀ target : SlotIndex, (wordByte w 0).toNat = target.val →
        let entry (source : Source) : Prop := parseFallback w = .ok { target := target, source := source }
        (kind = 2 ∨ 4 < kind → fails .badField) ∧ (kind = 0 → entry .none) ∧
        (kind = 1 → 3 < a ∨ b < 2 ∨ 31 < b → fails .badSlot) ∧
        (∀ k : SlotIndex, kind = 1 → a = (SlotIndex.port k).val → b = (SlotIndex.slot k).val → entry (.slot k)) ∧
        (kind = 3 → 7 < a → fails .badField) ∧ (∀ g : GroupNo, kind = 3 → a = g.val → entry (.scan g)) ∧
        (kind = 4 → entry (.const (wordByte w 2)))) ∧
  (∀ (s : State) (r : WorkRecord), Found s .fallbackControl r →
      (∀ c ∈ [Instr.enter, .recover], r.byte 0 0 ≠ 1 → r.byte 0 0 ≠ 2 → exec c s = .next (ended s r .badField 0)) ∧
      (r.byte 0 0 = 1 → s.supervision.fallback = true → exec .enter s = .next (ended s r .state 0)) ∧
      (r.byte 0 0 = 1 → s.supervision.fallback = false →
        exec .enter s = .next { withCause (ended s r .done (BitVec.ofNat 8 s.supervision.table.length)) .supervision with
          supervision := { s.supervision with fallback := true, wordDue := true }
          switch := { s.switch with overlayOrder := true } }) ∧
      (r.byte 0 0 = 2 → s.supervision.fallback = false → exec .recover s = .next (ended s r .state 0)) ∧
      (r.byte 0 0 = 2 → s.supervision.fallback = true → s.switch.slot = none →
        exec .recover s = .next { kept s r with
          switch := { s.switch with slot := some { held := r.held, change := .recover } } }))

/-! ### Boundaries: the edge, the slot switch (02 R27, R29, R30, R44; 03) -/

/-- A rising edge of FREF: what is left of the old boundary is done, the frame number advances, each receiver presents its
inbound frame, every timer in frames advances, and what the boundary brings becomes due at every block; without an
edge and without work nothing changes. An ALIGNED receiver presents the frame that came round the loop, else the latest frame
received, else the one before again; any other presents idle octets. The peer code presented is counted. At a block boundary
the count of every held PROBE and of an asserted RESET_OUT becomes due, and the exchange of every stream that waits; at another
boundary none does.
The model's own here: what is left of the old boundary is done first (`u`), and marks of due work (walkDue, blockDue, scanDue,
changeDue, overlayDue, formDue, sourcesDue, judgeDue, classifyDue, frameDue, senderDue, receiverDue, retryDue, advanceDue,
tickDue, resetTick, resumeDue; log 3), an exchange still outstanding is late (log 21), timers advance at the edge (log 13), the port seen as LINKED (seen; log 15), what the frame is formed from (tx; log 16),
the looped frame's arrival (loopArrived; log 17), that a boundary has passed (passed; log 49). -/
def Obligations.EdgeMakesWorkDue : Prop :=
  (∀ (s : State) (bus : List BusCycle), s.regs.poreset = false → ∃ t, exec (.frameBoundary true [] bus) s = .next t ∧
    t.timer = { number := s.timer.number + 1, blockDue := s.timer.number == 63, scanDue := s.timer.number == 31 } ∧
    t.walker.walkDue = (t.regs.run && t.walker.status != .halted && t.walker.walk == .none) ∧
    t.switch.formDue = true ∧ t.switch.sourcesDue = true ∧ t.switch.changeDue = t.switch.slot.isSome ∧
    t.switch.overlayDue = t.switch.overlayOrder ∧
    t.activity.judgeDue = true ∧ t.activity.classifyDue = (s.timer.number == 63) ∧
    (∀ n : StreamNo, t.streams[n].frameDue = t.streams[n].desc.isSome) ∧
    (∀ p : Port, t.channels[p].senderDue = true ∧ t.channels[p].receiverDue = true ∧
      t.router.retryDue[p] = t.router.waits[p].isSome ∧
      t.lines[p].seen = (t.lines[p].line == .linked && decide (t.lines[p].quietCount < 4))) ∧
    t.supervision.advanceDue = (t.supervision.mode != .off && t.regs.run) ∧
    let u := allPorts.foldl State.settleLine ({ s with bus := { cycles := bus } } : State).settle
    let block := s.timer.number == 63
    t = { u with
      bus := {}
      timer := t.timer
      lines := t.lines
      channels := t.channels
      streams := t.streams
      walker := { u.walker with walkDue := t.walker.walkDue }
      switch := { u.switch with
        changeDue := t.switch.changeDue, overlayDue := t.switch.overlayDue, formDue := true, sourcesDue := true }
      activity := { u.activity with judgeDue := true, classifyDue := block, counted := Vector.replicate 120 false }
      router := { u.router with
        retryDue := t.router.retryDue, probes := u.router.probes.map fun e => { e with tickDue := block } }
      supervision := { u.supervision with
        advanceDue := t.supervision.advanceDue, resetTick := block && u.supervision.resetOut.isSome } } ∧
    (∀ n : StreamNo, t.streams[n] = { u.streams[n] with
      frameDue := u.streams[n].desc.isSome
      desc := u.streams[n].desc.map fun d => { d with
        resumeDue := block && decide (d.status = .stalled ∨ d.status = .muted)
        accesses := d.accesses.map fun a => match a with
          | .resume _ => .resume true
          | .putWord off w => .putWord off w
          | .getWord off index => .getWord off index } }) ∧
    ∀ p : Port,
      let l := u.lines[p]
      let c := u.channels[p]
      let x := t.lines[p].rx
      x = { l.rx with presented := x.presented, latest := none } ∧
      (l.rx.status ≠ .aligned → x.presented = Vector.replicate 32 0xFF) ∧
      (l.rx.status = .aligned →
        (∀ f, l.loop = true → l.tx.loop = true → l.loopArrived = true → u.sentFrame p = some f → x.presented = f) ∧
        (∀ f, l.loop = false → l.rx.latest = some f → x.presented = f) ∧
        (l.loop = false → l.rx.latest = none → x.presented = l.rx.presented)) ∧
      (let counted := ({ l with rx := x } : LineUnit).countPeer
       t.lines[p].wakeCount = counted.wakeCount ∧ t.lines[p].quietCount = counted.quietCount ∧
       t.lines[p].peerSeen = counted.peerSeen) ∧
      t.lines[p].line = l.line ∧ t.lines[p].loop = l.loop ∧ t.lines[p].peer = l.peer ∧
      t.lines[p].identifyTimer = l.identifyTimer.map (· + 1) ∧ t.lines[p].lostTimer = l.lostTimer.map (· + 1) ∧
      t.lines[p].tx = { l.tx with line := l.line, loop := l.loop } ∧ t.lines[p].loopArrived = false ∧
      t.channels[p] = { c with
        takeTimer := c.takeTimer.map (· + 1), quitTimer := c.quitTimer.map (· + 1), stallTimer := c.stallTimer.map (· + 1)
        haltTimer := c.haltTimer.map (· + 1), senderDue := true, receiverDue := true }) ∧
  ∀ (s : State) (bus : List BusCycle), s.regs.poreset = false →
    exec (.frameBoundary false [] bus) s = .next { s with bus := {} } ∧
    let u := ({ s with bus := { cycles := bus } } : State).settle
    exec (.frameBoundary false [.passed] bus) s = .next { u with bus := {}, timer := { u.timer with passed := true } }

/-- With no change due, the switch forms for every slot the octet of its entry's source, as held for the frame just ended;
its last stage reads the inbound octets (idle where the port is not LINKED), the streams' octets and the outputs of the
scan groups, those of a scan step still due at this boundary included; a take that changes a group before that step gives the
frame the output of the member current before the take. The frame that a port sends carries the octets formed, in READY and
LINKED only, and the line code QUIET 0, WAKE 3 or READY 5 of its line state. PnTX carries that frame, and rests in OFF and in
loop mode.
The model's own here: marks of due work (scanDue, changeDue, overlayDue, formDue, sourcesDue, frameDue; log 3), what
the frame is formed from (tx; log 16), the port seen as LINKED and the slots behind the scan octets (seen, scanFrom; log 15),
reading ahead of the scan step (scanAhead; log 47), the member that the step leaves, whichever a take before it chose (log 51). -/
def Obligations.OctetsFormedAndSourcesRead : Prop :=
  (∀ (s : State) (first : Bool), s.regs.poreset = false → s.switch.formDue = true → s.switch.changeDue = false →
    s.switch.overlayDue = false → ∃ out : Vector Octet 120,
      exec (.frameBoundary false [.switch first] []) s = .next { s with
        bus := {}
        switch := { s.switch with out := out, formDue := false } } ∧
      ∀ k : SlotIndex,
        (s.switch.map[k].source = .none → out[k] = 0xFF) ∧
        (∀ j, s.switch.map[k].source = .slot j → out[k] = s.switch.srcSlots[j]) ∧
        (∀ n, s.switch.map[k].source = .stream n → out[k] = s.switch.srcStreams[n]) ∧
        (∀ g, s.switch.map[k].source = .scan g → out[k] = s.switch.srcScans[g]) ∧
        ∀ v, s.switch.map[k].source = .const v → out[k] = v) ∧
  (∀ s : State, s.regs.poreset = false → s.switch.sourcesDue = true → s.switch.formDue = false →
    (∀ n : StreamNo, s.streams[n].frameDue = false) →
    ∃ (slots : Vector Octet 120) (streams : Vector Octet 16) (scans : Vector Octet 8) (scanFrom : Vector (Option SlotIndex) 8)
      (stepped : State), exec .scanStep s = .next stepped ∧
      exec (.frameBoundary false [.sources] []) s = .next { s with
        bus := {}
        switch := { s.switch with
          srcSlots := slots, srcStreams := streams, srcScans := scans, scanFrom := scanFrom, sourcesDue := false
          scanAhead := Vector.replicate 8 s.timer.scanDue } } ∧
      (∀ k : SlotIndex, slots[k] =
        if s.lines[SlotIndex.port k].seen then s.lines[SlotIndex.port k].rx.presented[SlotIndex.slot k] else 0xFF) ∧
      (∀ n : StreamNo, streams[n] = s.streams[n].current) ∧
      ∀ g : GroupNo, (stepped.groups[g].current = none → scans[g] = 0xFF ∧ scanFrom[g] = none) ∧
        ∀ i m, stepped.groups[g].current = some i → stepped.groups[g].members[i]? = some m →
          (∀ k, m.source = .slot k → scans[g] = slots[k] ∧ scanFrom[g] = some k) ∧
          ∀ n, m.source = .stream n → scans[g] = streams[n] ∧ scanFrom[g] = none) ∧
  (∀ (s : State) (g : GroupNo),
    let old := s.groups[g]
    (s.switch.scanAhead[g] = false → s.readBeforeTake g = s) ∧
    (s.switch.scanAhead[g] = true → ∃ (o : Octet) (slot : Option SlotIndex),
      s.readBeforeTake g = { s with switch := { s.switch with
        srcScans := s.switch.srcScans.set g o, scanFrom := s.switch.scanFrom.set g slot
        scanAhead := s.switch.scanAhead.set g false } } ∧
      (old.current = none → o = 0xFF ∧ slot = none) ∧
      ∀ i m, old.current = some i → old.members[i]? = some m →
        (∀ k, m.source = .slot k → slot = some k ∧
          o = if s.lines[SlotIndex.port k].seen then s.lines[SlotIndex.port k].rx.presented[SlotIndex.slot k] else 0xFF) ∧
        ∀ n, m.source = .stream n → slot = none ∧ o = s.streams[n].current)) ∧
  ∀ (s : State) (p : Port),
    (s.lines[p].tx.line = .off ∨ s.lines[p].tx.loop = true → s.pnTx p = none) ∧
    (s.lines[p].tx.loop = false → s.pnTx p = s.sentFrame p) ∧
    (LineState.quiet.lineCode = 0 ∧ LineState.lost.lineCode = 0 ∧ LineState.awake.lineCode = 3 ∧ LineState.ready.lineCode = 5 ∧
      LineState.linked.lineCode = 5) ∧
    (s.lines[p].tx.line = .off → s.sentFrame p = none) ∧
    (s.lines[p].tx.line ≠ .off → ∃ f : Frame, s.sentFrame p = some f ∧
      f[1] = s.lines[p].tx.line.lineCode ++ (if s.lines[p].tx.line.runs then s.lines[p].tx.marks else 0) ∧
      f[0] = (if s.lines[p].tx.line.runs then s.lines[p].tx.slot0 else 0xFF) ∧
      ∀ k : SlotIndex, SlotIndex.port k = p →
        f[SlotIndex.slot k] = if s.lines[p].tx.line.runs then s.switch.out[k] else 0xFF)

/-- A held edit list at its boundary: the checks on each edit in their order; a list whose edits all pass is applied whole
and retired DONE with the number of edits; a list with a bad edit changes no entry and is retired with the first failure
and its edit's number. The stream references that an applied list loses and gains are counted, and the 120 octets are formed
from the map after the list. The fields of an edit's words, with the checks on them; the edits are judged in order, each after
the targets of those before it, and numbered from 1. (`losses n ≤ refs` holds where the references are counted, as every step
keeps them: ReferencesStayCounted.)
The model's own here: marks of due work (changeDue, overlayDue, formDue; log 3). -/
def Obligations.EditListCarriedOut : Prop :=
  (∀ (s : State) (before : List SlotIndex) (w : Word × Word),
    (∀ o, parseEdit w = .error o → s.judgeEdit before w = .error o) ∧
    ∀ e, parseEdit w = .ok e →
      let t := s.switch.map[e.target]
      let noStream := ∃ n, e.source = .stream n ∧ s.isOpenFeed n = false
      let isProtected := t.marked = true ∨ (t.cls = .urgent ∧ e.cls = .normal)
      let occupied := t.tag ≠ 0 ∧ t.tag ≠ e.tag ∧ e.override = false
      (e.target ∈ before → s.judgeEdit before w = .error .duplicate) ∧
      (e.target ∉ before → noStream → s.judgeEdit before w = .error .noStream) ∧
      (e.target ∉ before → ¬ noStream → isProtected → s.judgeEdit before w = .error .isProtected) ∧
      (e.target ∉ before → ¬ noStream → ¬ isProtected → occupied → s.judgeEdit before w = .error .occupied) ∧
      (e.target ∉ before → ¬ noStream → ¬ isProtected → ¬ occupied → s.judgeEdit before w = .ok e)) ∧
  (∀ w v : Word,
    let action := (wordByte w 2).toNat
    let kind := (wordByte v 0).toNat
    let a := (wordByte v 1).toNat
    let b := (wordByte v 2).toNat
    let fails (o : OutcomeCode) := parseEdit (w, v) = .error o
    (3 < (wordByte w 0).toNat ∨ (wordByte w 1).toNat < 2 ∨ 31 < (wordByte w 1).toNat → fails .badSlot) ∧
    ∀ target : SlotIndex, (wordByte w 0).toNat = (SlotIndex.port target).val → (wordByte w 1).toNat = (SlotIndex.slot target).val →
      let edit (put : Bool) (source : Source) : Prop := parseEdit (w, v) = .ok {
        target := target, put := put, cls := if (wordByte w 3).getLsbD 0 then .urgent else .normal
        override := (wordByte w 3).getLsbD 1, source := source, tag := wordByte v 3 }
      (action ≠ 1 → action ≠ 2 → fails .badField) ∧ (action = 2 → edit false .none) ∧
      (action = 1 →
        (4 < kind → fails .badField) ∧ (kind = 0 → edit true .none) ∧
        (kind = 1 → 3 < a ∨ b < 2 ∨ 31 < b → fails .badSlot) ∧
        (∀ k : SlotIndex, kind = 1 → a = (SlotIndex.port k).val → b = (SlotIndex.slot k).val → edit true (.slot k)) ∧
        (kind = 2 → 15 < a → fails .badField) ∧ (∀ n : StreamNo, kind = 2 → a = n.val → edit true (.stream n)) ∧
        (kind = 3 → 7 < a → fails .badField) ∧ (∀ g : GroupNo, kind = 3 → a = g.val → edit true (.scan g)) ∧
        (kind = 4 → edit true (.const (wordByte v 1))))) ∧
  (∀ (s : State) (edits : List (Word × Word)) (es : List Edit), es.length ≤ edits.length →
    (∀ j (hj : j < es.length) w, edits[j]? = some w →
      s.judgeEdit ((es.take j).map fun e => e.target) w = .ok es[j]) →
    (es.length = edits.length → s.judgeEdits 1 [] edits = .ok es) ∧
    ∀ w o, edits[es.length]? = some w → s.judgeEdit (es.map fun e => e.target) w = .error o →
      s.judgeEdits 1 [] edits = .error (o, es.length + 1)) ∧
  ∀ (s : State) (p : PendingChange) (edits : List (Word × Word)), s.regs.poreset = false → s.switch.formDue = true →
    s.switch.changeDue = true → s.switch.overlayDue = false → s.switch.slot = some p → p.change = .editList edits →
    (∀ es, s.judgeEdits 1 [] edits = .ok es → ∃ t, exec (.frameBoundary false [.switch false] []) s = .next t ∧
      t = { s with bus := {}, retire := s.retire ++ [.retire p.held .done (BitVec.ofNat 8 edits.length) [] false],
                   switch := t.switch, streams := t.streams } ∧
      t.switch = { s.switch with slot := none, changeDue := false, formDue := false, map := t.switch.map, out := t.switch.out } ∧
      (∀ e ∈ es, t.switch.map[e.target] =
        if e.put then { source := e.source, tag := e.tag, cls := e.cls, marked := false } else {}) ∧
      (∀ k : SlotIndex, (∀ e ∈ es, e.target ≠ k) → t.switch.map[k] = s.switch.map[k]) ∧ Formed s.switch t.switch ∧
      ∀ n : StreamNo,
        let losses := es.countP fun e => s.switch.map[e.target].source == .stream n
        let gains := es.countP fun e => e.put && e.source == .stream n
        t.streams[n] = { s.streams[n] with refs := t.streams[n].refs } ∧
        (losses ≤ s.streams[n].refs → t.streams[n].refs = s.streams[n].refs - losses + gains)) ∧
    (∀ o k, s.judgeEdits 1 [] edits = .error (o, k) → ∃ t, exec (.frameBoundary false [.switch false] []) s = .next t ∧
      t = { s with bus := {}, retire := s.retire ++ [.retire p.held o (BitVec.ofNat 8 k) [] false],
                   switch := { s.switch with slot := none, changeDue := false, formDue := false, out := t.switch.out } } ∧
      Formed s.switch t.switch)

/-- DROP_TAG at its boundary empties every entry of its tag that holds no fallback mark and reports their number; the overlay
displaces its targets' entries and lays the table over them; RECOVER writes the displaced entries back, cancels an
overlay due at the same boundary, clears FALLBACK and the error count, starts a fresh period unless the mode is OFF, and raises
SUPERVISION. A change and an overlay due together are carried out one after the other in either order. A DROP_TAG counts the
stream references lost, and after every change the 120 octets are formed from the map as it then stands.
The model's own here: marks of due work (changeDue, overlayDue, formDue, advanceDue; log 3), no take falls between two changes
due together (log 52). -/
def Obligations.DropTagOverlayRecovery : Prop :=
  (∀ (s : State) (p : PendingChange) (tag : Octet), s.regs.poreset = false → s.switch.formDue = true →
    s.switch.changeDue = true → s.switch.overlayDue = false → s.switch.slot = some p → p.change = .dropTag tag →
    let drops (k : SlotIndex) : Bool := s.switch.map[k].tag == tag && !s.switch.map[k].marked
    ∃ t, exec (.frameBoundary false [.switch false] []) s = .next t ∧
      t = { s with
        bus := {}
        retire := s.retire ++ [.retire p.held .done (BitVec.ofNat 8 ((List.finRange 120).countP drops)) [] false]
        switch := t.switch
        streams := t.streams } ∧
      t.switch = { s.switch with slot := none, changeDue := false, formDue := false, map := t.switch.map, out := t.switch.out } ∧
      (∀ k : SlotIndex, t.switch.map[k] = if drops k then {} else s.switch.map[k]) ∧ Formed s.switch t.switch ∧
      ∀ n : StreamNo, t.streams[n] = { s.streams[n] with
        refs := s.streams[n].refs - (List.finRange 120).countP fun k => drops k && s.switch.map[k].source == .stream n }) ∧
  (∀ s : State, s.regs.poreset = false → s.switch.formDue = true → s.switch.changeDue = false → s.switch.overlayDue = true →
    (s.supervision.table.map fun e => e.target).Nodup →
    ∃ t, exec (.frameBoundary false [.switch false] []) s = .next t ∧ t = { s with bus := {}, switch := t.switch } ∧
      t.switch = { s.switch with overlayOrder := false, overlayDue := false, formDue := false
                                 displaced := t.switch.displaced, map := t.switch.map, out := t.switch.out } ∧
      Formed s.switch t.switch ∧
      t.switch.displaced = s.switch.displaced ++
        (s.supervision.table.map fun e => { target := e.target, entry := s.switch.map[e.target] }) ∧
      (∀ e ∈ s.supervision.table, t.switch.map[e.target] = { source := e.source, tag := 0, cls := .urgent, marked := true }) ∧
      ∀ k : SlotIndex, (∀ e ∈ s.supervision.table, e.target ≠ k) → t.switch.map[k] = s.switch.map[k]) ∧
  (∀ s : State, s.regs.poreset = false → s.switch.formDue = true → s.switch.changeDue = true → s.switch.overlayDue = true →
    (∃ t, exec (.frameBoundary false [.switch true] []) { s with switch := { s.switch with changeDue := false } } = .next t ∧
      exec (.frameBoundary false [.switch true] []) s = exec (.frameBoundary false [.switch false] [])
        { t with switch := { t.switch with changeDue := true, formDue := true } }) ∧
    ∀ p : PendingChange, s.switch.slot = some p → p.change ≠ .recover →
      ∃ t, exec (.frameBoundary false [.switch false] []) { s with switch := { s.switch with overlayDue := false } } = .next t ∧
        exec (.frameBoundary false [.switch false] []) s = exec (.frameBoundary false [.switch true] [])
          { t with switch := { t.switch with overlayDue := true, formDue := true } }) ∧
  ∀ (s : State) (p : PendingChange), s.regs.poreset = false → s.switch.formDue = true → s.switch.changeDue = true →
    s.switch.slot = some p → p.change = .recover → (s.switch.displaced.map fun d => d.target).Nodup →
    ∃ t, exec (.frameBoundary false [.switch false] []) s = .next t ∧
      t = { withCause s .supervision with
        bus := {}
        retire := s.retire ++ [.retire p.held .done (BitVec.ofNat 8 s.switch.displaced.length) [] false]
        switch := t.switch
        supervision :=
          let v := { s.supervision with fallback := false, errorCount := 0, wordDue := true }
          if s.supervision.mode = .off then v
          else { v with position := 0, phase := .first, bad := false, index := 3, advanceDue := false } } ∧
      t.switch = { s.switch with slot := none, displaced := [], overlayOrder := false, overlayDue := false, changeDue := false
                                 formDue := false, map := t.switch.map, out := t.switch.out } ∧
      Formed s.switch t.switch ∧
      (∀ d ∈ s.switch.displaced, t.switch.map[d.target] = { d.entry with marked := false }) ∧
      ∀ k : SlotIndex, (∀ d ∈ s.switch.displaced, d.target ≠ k) → t.switch.map[k] = s.switch.map[k]

/-! ### The port lines (02) -/

/-- Outside loop mode: CANDIDATE_MARK starts a candidate; RECEIVE_FRAME counts marks and misses; ALIGNED and MISALIGNED
move the receiver, and with it the line states that R37, R38 and R42 name, with the channel's flush at an entry into LOST. In
loop mode what PnRX brings does not matter: the port's own frame arrives once in a frame, with its mark, as a first candidate or
at the expected position.
The model's own here: which command is the arrival, and that the frame's octets are taken at the edge that presents them
(loopArrived; log 17), what goes round the loop (tx; log 16), the first frame kept is the one of the fourth mark (log 18), the flush after the move (log 32), slot 0 and
the marks of the frame under way stay (log 43), a MISALIGNED at a boundary comes before the edge or after it (log 53). -/
def Obligations.ReceiverCountsMarks : Prop :=
  ∀ (s : State) (p : Port), s.regs.poreset = false →
    let l := s.lines[p]
    let withRx (rx : PortReceiver) : State := { s with lines := s.lines.set p { l with rx := rx } }
    (∀ pos, l.loop = false → l.rx.status = .hunting → l.rx.candidate = none → l.rx.markCount < 4 →
      exec (.candidateMark p pos) s = .next (withRx { l.rx with candidate := some pos, markCount := 1 })) ∧
    (∀ pos, l.loop = false →
      l.rx.status = .stopped ∨ (l.rx.status = .hunting ∧ l.rx.candidate ≠ none ∧ l.rx.markCount < 4) ∨
        (l.rx.status = .aligned ∧ l.rx.missCount < 3) → exec (.candidateMark p pos) s = .next s) ∧
    (∀ mark octets, l.loop = false → l.rx.status = .stopped → exec (.receiveFrame p mark octets) s = .next s) ∧
    (∀ octets c, l.loop = false → l.rx.status = .hunting → l.rx.candidate = some c → l.rx.markCount < 4 →
      exec (.receiveFrame p true octets) s = .next (withRx { l.rx with
        markCount := l.rx.markCount + 1, latest := if 3 ≤ l.rx.markCount then some octets else none })) ∧
    (∀ octets c, l.loop = false → l.rx.status = .hunting → l.rx.candidate = some c → l.rx.markCount < 4 →
      exec (.receiveFrame p false octets) s = .next (withRx { l.rx with candidate := none, markCount := 0 })) ∧
    (∀ mark octets, l.loop = false → l.rx.status = .aligned → l.rx.missCount < 3 →
      exec (.receiveFrame p mark octets) s = .next (withRx { l.rx with
        missCount := if mark then 0 else l.rx.missCount + 1, latest := some octets })) ∧
    (∀ mark mark' octets octets', l.loop = true →
      exec (.receiveFrame p mark octets) s = exec (.receiveFrame p mark' octets') s) ∧
    (l.loop = true →
      let arrives := l.tx.loop = true ∧ l.tx.line ≠ .off ∧ l.loopArrived = false
      let arrived (rx : PortReceiver) : State := { s with lines := s.lines.set p { l with rx := rx, loopArrived := true } }
      (∀ mark octets pos, ¬ arrives →
        exec (.receiveFrame p mark octets) s = .next s ∧ exec (.candidateMark p pos) s = .next s) ∧
      (∀ mark octets, l.rx.status = .hunting → l.rx.candidate = none → exec (.receiveFrame p mark octets) s = .next s) ∧
      (∀ pos, l.rx.status ≠ .hunting ∨ l.rx.candidate ≠ none → exec (.candidateMark p pos) s = .next s) ∧
      (∀ pos, arrives → l.rx.status = .hunting → l.rx.candidate = none → l.rx.markCount < 4 →
        exec (.candidateMark p pos) s = .next (arrived { l.rx with candidate := some pos, markCount := 1 })) ∧
      (∀ mark octets c, arrives → l.rx.status = .hunting → l.rx.candidate = some c → l.rx.markCount < 4 → ∃ kept,
        exec (.receiveFrame p mark octets) s = .next (arrived { l.rx with markCount := l.rx.markCount + 1, latest := kept })) ∧
      (∀ mark octets, arrives → l.rx.status = .aligned → l.rx.missCount < 3 → ∃ kept,
        exec (.receiveFrame p mark octets) s = .next (arrived { l.rx with missCount := 0, latest := kept })) ∧
      ∀ mark octets, arrives → l.rx.status = .stopped → exec (.receiveFrame p mark octets) s = .next (arrived l.rx)) ∧
    (l.rx.status = .hunting → 4 ≤ l.rx.markCount → l.line ≠ .quiet →
      exec (.aligned p) s = .next (withRx { l.rx with status := .aligned, missCount := 0 })) ∧
    (l.rx.status = .hunting → 4 ≤ l.rx.markCount → l.line = .quiet →
      exec (.aligned p) s = .next { withCause s .port with
        lines := s.lines.set p { l with rx := { l.rx with status := .aligned, missCount := 0 }, line := .awake, wakeCount := 0,
                                        quietCount := 0, statusDue := true } }) ∧
    (l.rx.status = .aligned → 3 ≤ l.rx.missCount → l.line.counts = false →
      exec (.misaligned p) s = .next (withRx { l.rx with
        status := .hunting, markCount := 0, candidate := none, latest := none })) ∧
    (l.rx.status = .aligned → 3 ≤ l.rx.missCount → l.line.counts = true →
      exec (.misaligned p) s = .next (withCause (flushed s p { l with
        rx := { l.rx with status := .hunting, markCount := 0, candidate := none, latest := none }
        line := .lost, wakeCount := 0, quietCount := 0, peerSeen := false, statusDue := true, peer := 0
        identifyTimer := none, lostTimer := some 0 }) .port))

/-- A peer code, bits 7 to 5 of the line-state octet, is WAKE for 3, READY for 5 and QUIET for every other value, and one
presented in AWAKE, READY or LINKED is counted; eight WAKE or READY codes bring READY with the IDENTIFY as
the queue's only message, four QUIET codes LOST, 256 frames in READY LOST, 16 frames in LOST QUIET with the loop flag as
it was; each entry raises PORT, and a port that was READY or LINKED has its channel flushed: the message in transmission
and then the queue in its order are reported LINK_DOWN, a SEND's with the bytes taken, a forwarded DATA by a RETURNED.
The model's own here: what the frame is formed from (tx; log 16), the order of flush and move (log 32). -/
def Obligations.LineMovesByCountAndTimer : Prop :=
  (∀ b : Octet, (b.extractLsb' 5 3 = 3#3 → peerCode b = .wake) ∧ (b.extractLsb' 5 3 = 5#3 → peerCode b = .ready) ∧
    (b.extractLsb' 5 3 ≠ 3#3 → b.extractLsb' 5 3 ≠ 5#3 → peerCode b = .quiet)) ∧
  (∀ l : LineUnit, l.line.counts = true →
    (peerCode l.rx.presented[1] ≠ .quiet →
      l.countPeer = { l with wakeCount := min 8 (l.wakeCount + 1), quietCount := 0, peerSeen := true }) ∧
    (peerCode l.rx.presented[1] = .quiet → l.peerSeen = true →
      l.countPeer = { l with wakeCount := 0, quietCount := min 4 (l.quietCount + 1) }) ∧
    (peerCode l.rx.presented[1] = .quiet → l.peerSeen = false → l.countPeer = { l with wakeCount := 0 })) ∧
  (∀ (s : State) (p : Port),
    let c := s.channels[p]
    let u : State := { s with channels := s.channels.set p { c with inFlight := none, queue := [] } }
    let dropped : List (Queued × Nat) := (c.inFlight.toList.map fun f => (f.item, f.index)) ++ c.queue.map fun q => (q, 0)
    let v := dropped.foldl (fun x d => x.report d.1 .linkDown d.2) u
    s.flush p = { v with
      channels := v.channels.set p { senderDue := c.senderDue, receiverDue := c.receiverDue }
      router := { v.router with waits := v.router.waits.set p none, retryDue := v.router.retryDue.set p false } }) ∧
  (∀ (s : State) (q : Queued) (n : Nat),
    (∀ h, q.origin = .send h →
      s.report q .linkDown n = { s with retire := s.retire ++ [.retire h .linkDown (BitVec.ofNat 8 n) [] false] }) ∧
    (q.origin = .router → q.msg.kind = .data → s.report q .linkDown n = s.routeMade {
      dest := q.msg.source, source := s.router.node, hop := 15, kind := .returned
      payload := [q.msg.dest, 0x0C, BitVec.ofNat 8 q.msg.payload.length] ++ q.msg.payload.take 8 }) ∧
    (q.origin = .router → q.msg.kind ≠ .data → s.report q .linkDown n = s) ∧
    (q.origin = .lineUnit → s.report q .linkDown n = s)) ∧
  ∀ (s : State) (p : Port), s.regs.poreset = false →
    let l := s.lines[p]
    let lost : LineUnit := { l with
      line := .lost, wakeCount := 0, quietCount := 0, peerSeen := false, statusDue := true, peer := 0,
      identifyTimer := none, lostTimer := some 0, tx := { l.tx with line := .lost } }
    let moves (c : Instr) (new : LineUnit) : Prop := ∃ t, exec c s = .next t ∧ t.lines[p] = new ∧
      t = withCause (flushed s p new) .port ∧ t.regs.attnPending = s.regs.attnPending ||| Cause.port.bit ∧
      (∀ q : Port, q ≠ p → t.lines[q] = s.lines[q]) ∧
      t.mem = s.mem ∧ t.walker = s.walker ∧ t.switch = s.switch ∧ t.supervision = s.supervision ∧
      (l.line.runs = true → t.channels[p].sender = .idle ∧ t.channels[p].inFlight = none ∧ t.channels[p].queue = [] ∧
        t.channels[p].receiver = .idle ∧ t.channels[p].holding = none)
    (l.line = .awake → 8 ≤ l.wakeCount → ∃ t, exec (.wakeCountReady p) s = .next t ∧
      t = { withCause s .port with lines := t.lines, channels := t.channels } ∧
      t.lines[p].line = .ready ∧ t.lines[p].identifyTimer = some 0 ∧ t.lines[p].statusDue = true ∧
      t.lines[p].tx.line = .ready ∧ t.lines[p].peerSeen = l.peerSeen ∧ t.lines[p].wakeCount = 0 ∧
      t.channels[p] = { s.channels[p] with queue := [{
        msg := { dest := 0, source := s.router.node, hop := 0, kind := .identify, payload := [] }, origin := .lineUnit }] } ∧
      ∀ q : Port, q ≠ p → t.lines[q] = s.lines[q] ∧ t.channels[q] = s.channels[q]) ∧
    (l.line ≠ .awake ∨ l.wakeCount < 8 → exec (.wakeCountReady p) s = .next s) ∧
    (l.line.counts = true → 4 ≤ l.quietCount → moves (.quietCountLoss p) lost) ∧
    (l.line.counts = false ∨ l.quietCount < 4 → exec (.quietCountLoss p) s = .next s) ∧
    (∀ n, l.line = .ready → l.identifyTimer = some n → 256 ≤ n → moves (.identifyTimeout p) lost) ∧
    (∀ n, l.identifyTimer = some n → n < 256 → exec (.identifyTimeout p) s = .next s) ∧
    (∀ n, l.line = .lost → l.lostTimer = some n → 16 ≤ n → moves (.lostTimerExpiry p) { l with
      line := .quiet, wakeCount := 0, quietCount := 0, peerSeen := false, statusDue := true, peer := 0,
      identifyTimer := none, lostTimer := none, tx := { l.tx with line := .quiet },
      rx := { l.rx with status := .hunting, markCount := 0, missCount := 0, candidate := none, latest := none } }) ∧
    (∀ n, l.lostTimer = some n → n < 16 → exec (.lostTimerExpiry p) s = .next s)

/-- A completed IDENTIFY leaves the holding: in READY a source from 1 to 254 brings LINKED with that peer, in LINKED a
different one replaces the peer, both with PORT; a source that names no node changes nothing else.
The model's own here: the IDENTIFY stands in the holding until this command (log 19), what the frame is formed from (tx;
log 16). -/
def Obligations.IdentifyCompletes : Prop :=
  ∀ (s : State) (p : Port) (m : Message), s.regs.poreset = false → s.channels[p].holding = some m → m.kind = .identify →
    let l := s.lines[p]
    let emptied := s.channels.set p { s.channels[p] with holding := none }
    let node := 1 ≤ m.source.toNat ∧ m.source.toNat ≤ 254
    (l.line = .ready → node → exec (.identify p) s = .next { withCause s .port with
      channels := emptied
      lines := s.lines.set p { l with line := .linked, wakeCount := 0, quietCount := 0, statusDue := true, peer := m.source,
                                      identifyTimer := none, tx := { l.tx with line := .linked } } }) ∧
    (l.line = .linked → node → m.source ≠ l.peer → exec (.identify p) s = .next { withCause s .port with
      channels := emptied
      lines := s.lines.set p { l with peer := m.source, statusDue := true } }) ∧
    (l.line = .linked → m.source = l.peer → exec (.identify p) s = .next { s with channels := emptied }) ∧
    (¬ node → exec (.identify p) s = .next { s with channels := emptied })

/-! ### Words that the part writes into the header (02 R45, 04 R82 to R85, 09 R175) -/

/-- Port status word, supervision word and activity image, written while the header-written flag is set and a write is due;
a bus error raises BUS and halts nothing, an image ends at the word that fails, and the activity attention owed follows the
image, whether it has ended well or not. The values of the fields of both words.
The model's own here: the number of words in one command (log 30). -/
def Obligations.StatusWordsWritten : Prop :=
  (LineState.off.code = 0 ∧ LineState.quiet.code = 1 ∧ LineState.awake.code = 2 ∧ LineState.ready.code = 3 ∧
    LineState.linked.code = 4 ∧ LineState.lost.code = 5 ∧ SenderState.idle.code = 0 ∧ SenderState.offering.code = 1 ∧
    SenderState.quitting.code = 2 ∧ ReceiverState.idle.code = 0 ∧ ReceiverState.receiving.code = 1 ∧
    ReceiverState.halting.code = 2 ∧ Mode.off.code = 0 ∧ Mode.window.code = 1 ∧ Mode.challenge.code = 2 ∧
    Phase.first.code = 0 ∧ Phase.second.code = 1) ∧
  (∀ (s : State) (p : Port), s.regs.poreset = false → s.lines[p].statusDue = true → s.walker.headerWritten = true →
    let done : State := { s with bus := {}, lines := s.lines.set p { s.lines[p] with statusDue := false } }
    exec (.portStatusWrite p []) s = .next { done with
      mem := s.mem.writeWord (s.busAddress (BitVec.ofNat 20 (0x10 + 4 * p.val)))
        (wordOf (s.lines[p].line.code ||| (if s.lines[p].loop then 0x80 else 0)) s.lines[p].peer s.channels[p].sender.code
          s.channels[p].receiver.code) } ∧
    exec (.portStatusWrite p [{ error := true }]) s = .next (withCause done .bus)) ∧
  (∀ (s : State) (p : Port) (bus : List BusCycle), s.regs.poreset = false →
    s.lines[p].statusDue = false ∨ s.walker.headerWritten = false →
    exec (.portStatusWrite p bus) s = .next { s with bus := {} }) ∧
  (∀ s : State, s.regs.poreset = false → s.supervision.wordDue = true → s.walker.headerWritten = true →
    let v := s.supervision
    let done : State := { s with bus := {}, supervision := { v with wordDue := false } }
    exec (.supervisionWordWrite []) s = .next { done with
      mem := s.mem.writeWord (s.busAddress 0x0C)
        (wordOf v.mode.code (v.phase.code ||| (if v.bad then 0x80 else 0)) (BitVec.ofNat 8 v.errorCount)
          ((BitVec.ofNat 4 v.index &&& 3#4) ++ v.q)) } ∧
    exec (.supervisionWordWrite [{ error := true }]) s = .next (withCause done .bus)) ∧
  (∀ s : State, s.regs.poreset = false → s.walker.headerWritten = true → s.activity.imageNext = none →
    s.activity.imageDue = true →
    exec (.activityImageWrite 4 []) s = .next { (if s.activity.raiseAfter then withCause s .activity else s) with
      bus := {}
      mem := [0, 1, 2, 3].foldl (fun m j =>
        m.writeWord (s.busAddress (BitVec.ofNat 20 (0x20 + 4 * j))) (s.activity.imageWord j)) s.mem
      activity := { s.activity with imageDue := false, raiseNow := false, raiseAfter := false } }) ∧
  (∀ (s : State) (bus : List BusCycle), s.regs.poreset = false →
    (s.supervision.wordDue = false ∨ s.walker.headerWritten = false →
      exec (.supervisionWordWrite bus) s = .next { s with bus := {} }) ∧
    ∀ words : Nat,
      ((s.activity.imageNext = none ∧ s.activity.imageDue = false) ∨ s.walker.headerWritten = false →
        exec (.activityImageWrite words bus) s = .next { s with bus := {} }) ∧
      (s.walker.headerWritten = true → s.activity.imageNext = none → s.activity.imageDue = true →
        exec (.activityImageWrite words bus) s = exec (.activityImageWrite words bus) { s with
          activity := { s.activity with imageDue := false, imageNext := some 0, raiseNow := s.activity.raiseAfter,
                                        raiseAfter := false } })) ∧
  (∀ (s : State) (j words : Nat), s.regs.poreset = false → s.walker.headerWritten = true → s.activity.imageNext = some j → j < 4 →
    let left (k : Nat) (next : Option Nat) : State := { s with
      bus := {}
      mem := imageWritten s j k
      activity := { s.activity with imageNext := next, raiseNow := s.activity.raiseNow && next.isSome } }
    let owed (t : State) : State := if s.activity.raiseNow then withCause t .activity else t
    (j + words < 4 → exec (.activityImageWrite words []) s = .next (left words (some (j + words)))) ∧
    (4 ≤ j + words → exec (.activityImageWrite words []) s = .next (owed (left (4 - j) none))) ∧
    ∀ k, k < words → j + k < 4 →
      exec (.activityImageWrite words (errorAfter k)) s = .next (owed (withCause (left k none) .bus))) ∧
  ∀ (a : Activity) (j i : Nat), j < 4 → i < 32 →
    (a.imageWord j).getLsbD i = if h : 32 * j + i < 120 then a.slots[32 * j + i].active else false

/-! ### Activity, blocks and scans (04 R79, R80; 05 R93; 08 R158; 09 R170) -/

/-- The octets presented are judged against the threshold and counted. At a block boundary at which no stream waits, every
slot is classified and its count cleared, and then the octets of this boundary are judged, so a count is 0 or 1 afterwards; PROBE
timeouts and RESET_OUT count down, a changed flag makes the image due, and a change in the watch set brings ACTIVITY after the
image, or at once while the header-written flag is clear.
The model's own here: marks of due work (blockDue, judgeDue, classifyDue, resumeDue, tickDue, resetTick; log 3), a count that
would reach 0 is left to NO_REPLY and RESET_OUT_RELEASE (log 14), the port seen as LINKED and the slots counted (seen, counted; log 15). -/
def Obligations.LoudAndClassified : Prop :=
  (∀ s : State, s.regs.poreset = false → s.activity.judgeDue = true → s.activity.classifyDue = false →
    ∃ (slots : Vector SlotActivity 120) (counted : Vector Bool 120),
      exec (.frameBoundary false [.activity] []) s = .next { s with
        bus := {}
        activity := { s.activity with judgeDue := false, slots := slots, counted := counted } } ∧
      ∀ k : SlotIndex,
        let x := s.lines[SlotIndex.port k].rx.presented[SlotIndex.slot k]
        let loud := s.lines[SlotIndex.port k].seen = true ∧ s.activity.threshold ≤ x.toInt.natAbs
        (counted[k] = true ↔ loud) ∧
        slots[k] = if loud then { s.activity.slots[k] with loud := s.activity.slots[k].loud + 1 } else s.activity.slots[k]) ∧
  ∀ (s : State) (late : List StreamNo) (bus : List BusCycle), s.regs.poreset = false → s.timer.blockDue = true →
    s.activity.classifyDue = true → s.activity.judgeDue = true →
    (∀ (n : StreamNo) d, s.streams[n].desc = some d → d.resumeDue = false) →
    ∃ t, exec (.blockBoundary late bus) s = .next t ∧
      t = { s with bus := {}, regs := t.regs, timer := { s.timer with blockDue := false }, activity := t.activity,
                   router := t.router, supervision := t.supervision } ∧
      t.activity = { s.activity with
        slots := t.activity.slots, counted := t.activity.counted, imageDue := t.activity.imageDue
        raiseAfter := t.activity.raiseAfter, judgeDue := false, classifyDue := false } ∧
      (∀ k : SlotIndex,
        let e := s.activity.slots[k]
        let f := t.activity.slots[k]
        let x := s.lines[SlotIndex.port k].rx.presented[SlotIndex.slot k]
        let isLoud := s.lines[SlotIndex.port k].seen = true ∧ s.activity.threshold ≤ x.toInt.natAbs
        let loud := if isLoud then 1 else 0
        (t.activity.counted[k] = true ↔ isLoud) ∧
        (s.activity.onset ≤ e.loud → f = { active := true, loud := loud, hang := s.activity.hang }) ∧
        (e.loud < s.activity.onset → e.active = true → 0 < e.hang → f = { active := true, loud := loud, hang := e.hang - 1 }) ∧
        (e.loud < s.activity.onset → e.active = true → e.hang = 0 → f = { active := false, loud := loud, hang := 0 }) ∧
        (e.loud < s.activity.onset → e.active = false → f = { e with loud := loud })) ∧
      (t.activity.imageDue = true ↔ s.activity.imageDue = true ∨
        ∃ k : SlotIndex, t.activity.slots[k].active ≠ s.activity.slots[k].active) ∧
      (let watched := ∃ k : SlotIndex, t.activity.slots[k].active ≠ s.activity.slots[k].active ∧ s.activity.watch.getLsbD k.val = true
       (watched → s.walker.headerWritten = true → t.activity.raiseAfter = true ∧ t.regs = s.regs) ∧
       (watched → s.walker.headerWritten = false →
         t.activity.raiseAfter = s.activity.raiseAfter ∧ t.regs = (withCause s .activity).regs) ∧
       (¬ watched → t.activity.raiseAfter = s.activity.raiseAfter ∧ t.regs = s.regs)) ∧
      t.router = { s.router with probes := s.router.probes.map fun e =>
        if e.tickDue = true ∧ 2 ≤ e.blocks then { e with blocks := e.blocks - 1, tickDue := false } else e } ∧
      (∀ n, s.supervision.resetOut = some n → s.supervision.resetTick = true → 2 ≤ n →
        t.supervision = { s.supervision with resetOut := some (n - 1), resetTick := false }) ∧
      (s.supervision.resetOut = none → t.supervision = s.supervision)

/-- The scan step, once in frame 32: a group in HOLD keeps everything; a running group's dwell falls by 1, and at 0, or with
SKIP_SILENT on a current member that is no longer eligible, it searches onward; an EMPTY group searches from index 0. The
onward search begins after the current member and ends with it; the first eligible member becomes current with its full dwell,
and without one the group is EMPTY.
The model's own here: marks of due work (scanDue; log 3), readings ahead of the step (scanAhead; log 47). -/
def Obligations.ScanStepDue : Prop :=
  (∀ s : State, s.regs.poreset = false → s.timer.scanDue = true → ∃ groups : Vector ScanGroup 8,
    exec .scanStep s = .next { s with
      timer := { s.timer with scanDue := false }
      groups := groups
      switch := { s.switch with scanAhead := Vector.replicate 8 false } } ∧
    ∀ g : GroupNo,
      let old := s.groups[g]
      let silent (c : Nat) := old.skipSilent = true ∧ old.eligibleAt s.activity c = false
      (old.hold = true → groups[g] = old) ∧
      (∀ c, old.hold = false → old.current = some c → 2 ≤ old.dwell → ¬ silent c →
        groups[g] = { old with dwell := old.dwell - 1 }) ∧
      (∀ c, old.hold = false → old.current = some c → old.dwell ≤ 1 ∨ silent c → groups[g] = old.search s.activity) ∧
      (old.hold = false → old.current = none → groups[g] = old.search s.activity)) ∧
  (∀ s : State, s.regs.poreset = false → s.timer.scanDue = false → exec .scanStep s = .next s) ∧
  ∀ (a : Activity) (g : ScanGroup),
    let place (i : Nat) := i % g.members.length
    ((∀ i, g.eligibleAt a i = false) → g.search a = { g with current := none, dwell := 0 }) ∧
    (∀ i, g.current = none → g.eligibleAt a i = true → (∀ j, j < i → g.eligibleAt a j = false) →
      g.search a = { g with current := some i, dwell := g.dwellAt i }) ∧
    ∀ c d, g.current = some c → d < g.members.length → g.eligibleAt a (place (c + 1 + d)) = true →
      (∀ e, e < d → g.eligibleAt a (place (c + 1 + e)) = false) →
      g.search a = { g with current := some (place (c + 1 + d)), dwell := g.dwellAt (place (c + 1 + d)) }

/-! ### Streams (06) -/

/-- The frame work of a stream: an OPEN TAP collects the octet of its slot, issues each full word and finishes the half at L;
an OPEN FEED plays the octet it has, or the idle octet, and issues the next word's read; a stream that is not OPEN, or whose half
is finished, loses the octet or plays idle, and its position stays. A TAP that waits keeps its octet of a block boundary until
that boundary's exchange has ended.
The model's own here: marks of due work (frameDue; log 3), the port seen as LINKED (seen; log 15), the finished half
(log 20). -/
def Obligations.StreamFrameWork : Prop :=
  ∀ (s : State) (n : StreamNo) (d : StreamDesc), s.regs.poreset = false → s.streams[n].frameDue = true →
    s.streams[n].desc = some d →
    let run := exec (.frameBoundary false [.stream n] []) s
    let left (current : Octet) (d' : StreamDesc) : State := { s with
      bus := {}
      streams := s.streams.set n { s.streams[n] with frameDue := false, current := current, desc := some d' } }
    let next := d.position + 1
    let done : StreamDesc := { d with position := if next = d.len then 0 else next, finished := decide (next = d.len) }
    (∀ k, d.dir = .tap k → d.status = .opened → d.finished = false →
      let o := if s.lines[SlotIndex.port k].seen then s.lines[SlotIndex.port k].rx.presented[SlotIndex.slot k] else 0xFF
      (next % 4 ≠ 0 → run = .next (left s.streams[n].current { done with buffer := d.buffer ++ [o] })) ∧
      (∀ b0 b1 b2, next % 4 = 0 → d.buffer = [b0, b1, b2] → run = .next (left s.streams[n].current { done with
        buffer := []
        accesses := d.accesses ++ [.putWord (d.halfOffset d.half + BitVec.ofNat 20 (next - 4)) (o ++ b2 ++ b1 ++ b0)] }))) ∧
    (∀ k, d.dir = .tap k → d.status = .opened → d.finished = true → run = .next (left s.streams[n].current d)) ∧
    (let exchanging := d.resumeDue = true ∨ StreamAccess.resume false ∈ d.accesses
     (∀ k, d.dir = .tap k → d.status ≠ .opened → d.status = .fault ∨ ¬ exchanging → run = .next (left s.streams[n].current d)) ∧
     ∀ k, d.dir = .tap k → d.status ≠ .opened → d.status ≠ .fault → exchanging → run = .next { s with bus := {} }) ∧
    (d.dir = .feed → d.status = .opened → d.finished = false →
      let o := if d.bufferWord = d.position / 4 then d.buffer.getD (d.position % 4) 0xFF else 0xFF
      (next = d.len → run = .next (left o { done with buffer := [] })) ∧
      (next ≠ d.len → next % 4 = 0 → run = .next (left o { done with
        accesses := d.accesses ++ [.getWord (d.halfOffset d.half + BitVec.ofNat 20 next) (next / 4)] })) ∧
      (next ≠ d.len → next % 4 ≠ 0 → run = .next (left o done))) ∧
    (d.dir = .feed → d.status ≠ .opened ∨ d.finished = true → run = .next (left 0xFF d))

/-- HANDOVER of a finished half, its accesses ended, on a bus without errors: word 1 with fill and half, then the exchange that
makes the half HOST's; if the other half is PART's the stream goes on there, and else it waits with the break flag set.
STREAM is raised with NOTIFY, and always when the stream has to wait. A bus error on word 1 or on the exchange puts the stream in
FAULT with STREAM and BUS, and no further access is made. The codes of the stream states.
The model's own here: marks of due work (frameDue; log 3), the finished half (log 20), an exchange is one bus cycle
(log 23). -/
def Obligations.HandoverServed : Prop :=
  (StreamStatus.opened.code = 1 ∧ StreamStatus.stalled.code = 2 ∧ StreamStatus.muted.code = 3 ∧ StreamStatus.fault.code = 5) ∧
  (∀ (s : State) (n : StreamNo) (d : StreamDesc), s.regs.poreset = false → s.streams[n].desc = some d → d.status = .opened →
    d.finished = true → d.accesses = [] →
    let m1 := s.mem.writeWord (s.busAddress (d.block + 4))
      (wordOf (BitVec.ofNat 8 d.len) (BitVec.ofNat 8 (d.len / 256)) (if d.half = .a then 0 else 1) 0)
    let w := m1.readWord (s.busAddress d.block)
    let word (status flag : Octet) : Word :=
      if d.half = .a then wordOf 1 (wordByte w 1) status flag else wordOf (wordByte w 0) 1 status flag
    let otherOwner := if d.half = .a then wordByte w 1 else wordByte w 0
    let turned : StreamDesc := { d with
      lastHanded := some d.half, half := d.half.other, position := 0, buffer := [], finished := false }
    let left (status flag : Octet) (d' : StreamDesc) : State := { s with
      bus := {}
      mem := m1.writeWord (s.busAddress d.block) (word status flag)
      streams := s.streams.set n { s.streams[n] with
        desc := some d'
        current := if s.streams[n].frameDue then 0xFF else s.streams[n].current
        frameDue := false } }
    let waiting : StreamStatus := if d.dir = .feed then .muted else .stalled
    (otherOwner = 0 →
      let t := left 1 (wordByte w 3) { turned with
        accesses := if d.dir = .feed then [.getWord (d.halfOffset d.half.other) 0] else [] }
      exec (.handover n []) s = .next (if d.notify then withCause t .stream else t)) ∧
    (otherOwner ≠ 0 → exec (.handover n []) s =
      .next (withCause (left waiting.code 1 { turned with status := waiting }) .stream)) ∧
    let failed (m : Memory) : State := withCause (withCause { s with
      bus := {}
      mem := m
      streams := s.streams.set n { s.streams[n] with
        desc := some { d with status := .fault, lastHanded := some d.half, finished := false, buffer := [], resumeDue := false } } }
      .stream) .bus
    exec (.handover n (errorAfter 0)) s = .next (failed s.mem) ∧ exec (.handover n (errorAfter 1)) s = .next (failed m1)) ∧
  ∀ (s : State) (n : StreamNo) (d : StreamDesc) (bus : List BusCycle), s.regs.poreset = false → s.streams[n].desc = some d →
    d.status ≠ .opened ∨ d.finished = false ∨ d.accesses ≠ [] → exec (.handover n bus) s = .next { s with bus := {} }

/-- STREAM_ACCESS_COMPLETION ends the oldest access: a TAP's word is in memory, a FEED's word in its buffer; the exchange of a
waiting stream opens it again in the half it awaited when that half is PART's, and a TAP whose exchange ends before another
boundary has come places the octet of the block boundary at position 0; else the state is written as it stands. A bus error puts
the stream in FAULT, with STREAM and BUS, and writes the state into the status block unless that access failed. A FEED's frame
work of the boundary comes first. At a block boundary a waiting stream issues its exchange, which ends within the
boundary or later.
The model's own here: marks of due work (frameDue, resumeDue; log 3), the finished half (log 20), an exchange that
ends late (late; log 21), an exchange is one bus cycle (log 23), the address at completion (log 46), the state
written while the stream waits on (log 48). -/
def Obligations.StreamAccessEnds : Prop :=
  (∀ (s : State) (n : StreamNo) (d : StreamDesc) (a : StreamAccess) (rest : List StreamAccess), s.regs.poreset = false →
    s.streams[n].desc = some d → d.accesses = a :: rest → d.dir ≠ .feed ∨ s.streams[n].frameDue = false →
    let left (m : Memory) (x : Stream) : State := { s with bus := {}, mem := m, streams := s.streams.set n x }
    let faulted : Stream := { s.streams[n] with
      desc := some { d with status := .fault, accesses := [], finished := false, buffer := [], resumeDue := false } }
    let w := s.mem.readWord (s.busAddress d.block)
    let owner := if d.half = .a then wordByte w 0 else wordByte w 1
    let stateWritten (code : Octet) := s.mem.writeWord (s.busAddress d.block) (wordOf (wordByte w 0) (wordByte w 1) code (wordByte w 3))
    let resumed : StreamDesc := { d with status := .opened, position := 0, buffer := [], finished := false, accesses := rest }
    let waits := d.status = .stalled ∨ d.status = .muted
    (∀ off v, a = .putWord off v → exec (.streamAccessCompletion n []) s =
      .next (left (s.mem.writeWord (s.busAddress off) v) { s.streams[n] with desc := some { d with accesses := rest } })) ∧
    (∀ off i, a = .getWord off i →
      let v := s.mem.readWord (s.busAddress off)
      exec (.streamAccessCompletion n []) s = .next (left s.mem { s.streams[n] with
        desc := some { d with
          accesses := rest, bufferWord := i, buffer := [wordByte v 0, wordByte v 1, wordByte v 2, wordByte v 3] } })) ∧
    ((∃ off v, a = .putWord off v) ∨ (∃ off i, a = .getWord off i) →
      exec (.streamAccessCompletion n (errorAfter 0)) s =
        .next (withCause (withCause (left (stateWritten 5) faulted) .stream) .bus)) ∧
    ∀ late, a = .resume late →
      ((waits → owner ≠ 0) → exec (.streamAccessCompletion n []) s =
        .next (left (stateWritten d.status.code) { s.streams[n] with desc := some { d with accesses := rest } })) ∧
      (d.dir = .feed → waits → owner = 0 → exec (.streamAccessCompletion n []) s =
        .next (left (stateWritten 1) { s.streams[n] with
          current := 0xFF
          desc := some { resumed with accesses := rest ++ [.getWord (d.halfOffset d.half) 0] } })) ∧
      (∀ k, d.dir = .tap k → waits → owner = 0 → s.streams[n].frameDue = false ∨ late = true →
        exec (.streamAccessCompletion n []) s =
          .next (left (stateWritten 1) { s.streams[n] with frameDue := false, desc := some resumed })) ∧
      (∀ k, d.dir = .tap k → waits → owner = 0 → s.streams[n].frameDue = true → late = false → 8 ≤ d.len →
        let o := if s.lines[SlotIndex.port k].seen then s.lines[SlotIndex.port k].rx.presented[SlotIndex.slot k] else 0xFF
        exec (.streamAccessCompletion n []) s =
          .next (left (stateWritten 1) { s.streams[n] with
            frameDue := false, desc := some { resumed with buffer := [o], position := 1 } })) ∧
      exec (.streamAccessCompletion n (errorAfter 0)) s =
        .next (withCause (withCause (left s.mem faulted) .stream) .bus)) ∧
  (∀ (s : State) (n : StreamNo) (d : StreamDesc) (bus : List BusCycle), s.regs.poreset = false →
    s.streams[n].desc = some d → d.accesses ≠ [] → d.dir = .feed → s.streams[n].frameDue = true →
    ∃ t, exec (.frameBoundary false [.stream n] []) s = .next t ∧
      exec (.streamAccessCompletion n bus) s = exec (.streamAccessCompletion n bus) t) ∧
  (∀ (s : State) (n : StreamNo) (d : StreamDesc) (late : List StreamNo) (bus : List BusCycle), s.regs.poreset = false →
    s.timer.blockDue = true → s.streams[n].desc = some d → d.resumeDue = true → d.status = .stalled ∨ d.status = .muted →
    n ∈ late ∨ d.accesses ≠ [] →
    ∃ t, exec (.blockBoundary late bus) s = .next t ∧ t.streams[n] = { s.streams[n] with
      desc := some { d with resumeDue := false, accesses := d.accesses ++ [.resume false] } }) ∧
  (∀ (s : State) (n : StreamNo) (d : StreamDesc) (k : SlotIndex) (bus : List BusCycle), s.regs.poreset = false →
    s.timer.blockDue = true → s.streams[n].desc = some d → d.resumeDue = true → d.status = .stalled → d.dir = .tap k →
    d.accesses = [] → (∀ (i : StreamNo) e, i ≠ n → s.streams[i].desc = some e → e.resumeDue = false) →
    ∃ t, exec (.blockBoundary [n] []) s = .next t ∧
      exec (.blockBoundary [] bus) s = exec (.streamAccessCompletion n bus) t) ∧
  ∀ (s : State) (n : StreamNo) (d : StreamDesc) (bus : List BusCycle), s.regs.poreset = false → s.timer.blockDue = true →
    s.streams[n].desc = some d → d.resumeDue = true → d.status = .muted → d.dir = .feed → d.accesses = [] →
    (∀ (i : StreamNo) e, i ≠ n → s.streams[i].desc = some e → e.resumeDue = false) →
    ∃ t, exec (.blockBoundary [n] []) s = .next t ∧
      (let w := s.mem.readWord (s.busAddress d.block)
       let owner := if d.half = .a then wordByte w 0 else wordByte w 1
       let left (code : Octet) (x : Stream) : State := { t with
         mem := s.mem.writeWord (s.busAddress d.block) (wordOf (wordByte w 0) (wordByte w 1) code (wordByte w 3))
         streams := t.streams.set n x }
       (owner ≠ 0 → exec (.blockBoundary [] []) s =
         .next (left 3 { s.streams[n] with desc := some { d with resumeDue := false } })) ∧
       (owner = 0 → exec (.blockBoundary [] []) s = .next (left 1 { s.streams[n] with
         current := 0xFF
         frameDue := false
         desc := some { d with
           resumeDue := false, status := .opened, position := 0, buffer := [], finished := false
           accesses := [.getWord (d.halfOffset d.half) 0] } }))) ∧
      ∃ u, exec (.blockBoundary [] bus) s = .next u ∧
        exec (.frameBoundary false [.stream n] []) u = exec (.streamAccessCompletion n bus) t

/-! ### Supervision periods (09) -/

/-- The position advances; at W × 32 the phase becomes SECOND; at W × 64 the period ends bad: the count rises, and where it
rises to the threshold with FALLBACK clear the trip sets TRIPPED and FALLBACK, orders the overlay, and with
FALLBACK_AND_PULSE asserts RESET_OUT. RESET_OUT is released at the block boundary that brings its count to 0.
The model's own here: marks of due work (advanceDue, resetTick; log 3), PHASE_SECOND, PERIOD_END and RESET_OUT_RELEASE make the
last count themselves (log 14). -/
def Obligations.PeriodsAndTrip : Prop :=
  ∀ s : State, s.regs.poreset = false →
    let v := s.supervision
    let risen := min 15 (v.errorCount + 1)
    let ended : Supervision := { v with
      errorCount := risen, position := 0, phase := .first, bad := false, index := 3, wordDue := true, advanceDue := false }
    let trips := risen ≠ v.errorCount ∧ risen = v.threshold ∧ v.fallback = false
    (v.advanceDue = true → v.position + 1 ≠ v.period * 32 → v.position + 1 < v.period * 64 →
      exec (.frameBoundary false [.period] []) s = .next { s with
        bus := {}
        supervision := { v with position := v.position + 1, advanceDue := false } }) ∧
    (v.advanceDue = true → v.position + 1 = v.period * 32 → exec .phaseSecond s = .next { s with
      supervision := { v with position := v.position + 1, phase := .second, wordDue := true, advanceDue := false } }) ∧
    (v.advanceDue = false ∨ v.position + 1 ≠ v.period * 32 → exec .phaseSecond s = .next s) ∧
    (v.advanceDue = true → v.period * 64 ≤ v.position + 1 → ¬ trips → exec .periodEnd s =
      .next { (if risen = v.errorCount then s else withCause s .supervision) with supervision := ended }) ∧
    (v.advanceDue = true → v.period * 64 ≤ v.position + 1 → trips → exec .periodEnd s = .next { withCause s .supervision with
      switch := { s.switch with overlayOrder := true }
      supervision := { ended with
        tripped := true
        fallback := true
        resetOut := if v.action = .fallbackAndPulse then some v.pulseLength else v.resetOut
        resetTick := if v.action = .fallbackAndPulse then false else v.resetTick } }) ∧
    (v.advanceDue = false ∨ v.position + 1 < v.period * 64 → exec .periodEnd s = .next s) ∧
    (∀ n, v.resetOut = some n → v.resetTick = true → n ≤ 1 →
      exec .resetOutRelease s = .next { s with supervision := { v with resetOut := none, resetTick := false } }) ∧
    (∀ n, v.resetOut = some n → v.resetTick = false ∨ 2 ≤ n → exec .resetOutRelease s = .next s)

/-! ### Control channels (07) -/

/-- The sender of a channel in READY or LINKED: an IDLE one starts the queue's head against a READY peer that does not halt;
each byte taken brings the next, the last ends a SEND as DONE; HALT ends it as PEER_HALT; 64 frames without a take bring
QUITTING and TAKE_TIMEOUT, a QUITTING one takes no notice of the peer's marks, and 2 frames later the sender is IDLE; an IDLE sender starts the next message in the same event.
A message of the router that is dropped brings a RETURNED if it is a DATA. What stands afterwards is what the frame carries.
The bytes of a message and its check byte, the marks presented and sent, and the octet in slot 0.
The model's own here: marks of due work (senderDue; log 3), what the frame is formed from (tx; log 16). -/
def Obligations.ChannelSends : Prop :=
  (∀ m : Message, ∃ check : Octet,
    m.bytes = [m.dest, m.source, m.hop ++ (match m.kind with
      | .identify => 1#4
      | .data => 2#4
      | .probe => 3#4
      | .probeReply => 4#4
      | .returned => 5#4), BitVec.ofNat 8 m.payload.length] ++ m.payload ++ [check] ∧
    byteSum m.bytes = 0 ∧ m.size = m.bytes.length ∧ (m.payload.length ≤ 48 → messageOf m.bytes = some m)) ∧
  (∀ l : List Octet, byteSum l = BitVec.ofNat 8 (l.map BitVec.toNat).sum) ∧
  (∀ f : Frame,
    let m := peerMarks f
    (m.ready = true ↔ f[1].extractLsb' 5 3 = 5#3) ∧ m.byte = f[0] ∧ m.offer = f[1].getLsbD 4 ∧ m.last = f[1].getLsbD 3 ∧
    m.quit = f[1].getLsbD 2 ∧ m.take = f[1].getLsbD 1 ∧ m.halt = f[1].getLsbD 0) ∧
  (∀ c : Channel, c.marks.getLsbD 4 = c.offer ∧ c.marks.getLsbD 3 = c.last ∧ c.marks.getLsbD 2 = c.quit ∧
    c.marks.getLsbD 1 = c.take ∧ c.marks.getLsbD 0 = c.halt ∧
    (c.sender ≠ .offering → c.slot0 = 0xFF) ∧
    ∀ f, c.sender = .offering → c.inFlight = some f → c.slot0 = f.item.msg.bytes.getD f.index 0xFF) ∧
  (∀ (s : State) (q : Queued) (o : OutcomeCode) (n : Nat),
    (∀ h, q.origin = .send h → s.report q o n = { s with retire := s.retire ++ [.retire h o (BitVec.ofNat 8 n) [] false] }) ∧
    (q.origin = .router → o ≠ .done → q.msg.kind = .data → s.report q o n = s.routeMade {
      dest := q.msg.source, source := s.router.node, hop := 15, kind := .returned
      payload := [q.msg.dest, o.code, BitVec.ofNat 8 q.msg.payload.length] ++ q.msg.payload.take 8 }) ∧
    (q.origin = .router → o = .done ∨ q.msg.kind ≠ .data → s.report q o n = s) ∧
    (q.origin = .lineUnit → s.report q o n = s)) ∧
  ∀ (s : State) (p : Port), s.regs.poreset = false →
    let c := s.channels[p]
    let m := s.peer p
    let leaves (i : Instr) (c' : Channel) (retire : List Request) : Prop := ∃ t, exec i s = .next t ∧
      t = { s with bus := t.bus, channels := s.channels.set p c', lines := t.lines, retire := retire } ∧
      (∀ q : Port, q ≠ p → t.lines[q] = s.lines[q]) ∧
      t.lines[p] = { s.lines[p] with
        statusDue := t.lines[p].statusDue, tx := { s.lines[p].tx with slot0 := c'.slot0, marks := c'.marks } } ∧
      t.lines[p].statusDue = (s.lines[p].statusDue || decide (c'.sender ≠ c.sender))
    let reports (i : Instr) (c' : Channel) (f : InFlight) (o : OutcomeCode) : Prop := ∃ t, exec i s = .next t ∧
      (let u := ({ s with bus := {}, channels := s.channels.set p c' } : State).report f.item o f.index
       t = { u with lines := t.lines, bus := t.bus }) ∧
      (∀ q : Port, q ≠ p → t.lines[q] = s.lines[q]) ∧
      t.lines[p] = { s.lines[p] with
        statusDue := true, tx := { s.lines[p].tx with slot0 := t.channels[p].slot0, marks := t.channels[p].marks } }
    let work := Instr.frameBoundary false [.sender p] []
    let d : Channel := { c with senderDue := false }
    let idle : Channel := { d with
      sender := .idle, inFlight := none, last := false, quit := false, takeTimer := none, quitTimer := none }
    let next (c' : Channel) (q : Queued) (qs : List Queued) : Channel := { c' with
      queue := qs, sender := .offering, inFlight := some { item := q, index := 0 }, offer := !m.take, last := false, quit := false
      takeTimer := some 0 }
    (s.lines[p].line.runs = true → c.senderDue = true →
      (∀ q qs, c.sender = .idle → c.queue = q :: qs → m.ready = true → m.halt = false →
        leaves work (next d q qs) s.retire) ∧
      (c.sender = .idle → c.queue = [] ∨ m.ready = false ∨ m.halt = true → leaves work d s.retire) ∧
      (c.sender = .offering → m.ready = false → leaves work d s.retire) ∧
      (c.sender = .quitting → leaves work d s.retire) ∧
      ∀ f, c.sender = .offering → c.inFlight = some f → m.ready = true →
        (m.halt = false → m.take ≠ c.offer → leaves work d s.retire) ∧
        (m.halt = false → m.take = c.offer → f.index + 1 < f.item.msg.size →
          leaves work { d with inFlight := some { f with index := f.index + 1 }, offer := !c.offer,
                               last := decide (f.index + 2 = f.item.msg.size), quit := false, takeTimer := some 0 } s.retire) ∧
        (m.halt = false → m.take = c.offer → f.item.msg.size = f.index + 1 →
          let reported := match f.item.origin with
            | .send h => s.retire ++ [.retire h .done (BitVec.ofNat 8 f.item.msg.size) [] false]
            | .router | .lineUnit => s.retire
          (c.queue = [] → leaves work idle reported) ∧ ∀ q qs, c.queue = q :: qs → leaves work (next idle q qs) reported) ∧
        (m.halt = true → reports work { idle with offer := m.take } f .peerHalt)) ∧
    (∀ f n, c.sender = .offering → c.inFlight = some f → c.takeTimer = some n → 64 ≤ n →
      reports (.takeTimeout p) { c with
        sender := .quitting, inFlight := none, last := false, quit := true, takeTimer := none, quitTimer := some 0 } f .takeTimeout) ∧
    (∀ n, c.takeTimer = some n → n < 64 → exec (.takeTimeout p) s = .next s) ∧
    (∀ n, c.sender = .quitting → c.quitTimer = some n → 2 ≤ n →
      let left : Channel := { idle with senderDue := c.senderDue }
      (c.queue = [] ∨ m.ready = false ∨ m.halt = true → leaves (.quitTimerExpiry p) left s.retire) ∧
      ∀ q qs, c.queue = q :: qs → m.ready = true → m.halt = false → leaves (.quitTimerExpiry p) (next left q qs) s.retire) ∧
    (∀ n, c.quitTimer = some n → n < 2 → exec (.quitTimerExpiry p) s = .next s)

/-- The receiver of a channel in READY or LINKED: the checks on a byte; a byte offered is taken into the partial message; QUIT
drops the message; a bad byte, or 64 frames without one, brings HALTING, which ends after 2 frames with the frame presented
then read as an IDLE receiver reads it; a message complete
goes to the router at once, or, an IDENTIFY, stays in the holding for the line unit. The fields of a message in its bytes.
The model's own here: that an IDENTIFY stays in the holding until the command IDENTIFY (log 19), marks of due work
(receiverDue; log 3), what the frame is formed from (tx; log 16), a receiver that leaves HALTING and enters it again in one event
makes no status write due (log 44). -/
def Obligations.ChannelReceives : Prop :=
  (∀ (onlyIdentify : Bool) (part : List Octet) (b : Octet) (last : Bool),
    let i := part.length
    let final := 4 + (part.getD 3 0).toNat
    let kind := (b.setWidth 4).toNat
    let verdict := judgeByte onlyIdentify part b last
    (i < 4 → last = true → verdict = .reject) ∧
    (i = 2 → last = false → (kind = 0 ∨ 5 < kind) ∨ (onlyIdentify = true ∧ kind ≠ 1) → verdict = .reject) ∧
    (i = 3 → 48 < b.toNat → verdict = .reject) ∧
    (i < 2 → last = false → verdict = .accept) ∧
    (i = 2 → last = false → 1 ≤ kind → kind ≤ 5 → (onlyIdentify = true → kind = 1) → verdict = .accept) ∧
    (i = 3 → last = false → b.toNat ≤ 48 → verdict = .accept) ∧
    (4 ≤ i → i < final → last = true → verdict = .reject) ∧ (4 ≤ i → i < final → last = false → verdict = .accept) ∧
    (4 ≤ i → final ≤ i → last = true → byteSum (part ++ [b]) = 0 → verdict = .complete) ∧
    (4 ≤ i → final ≤ i → last = false ∨ byteSum (part ++ [b]) ≠ 0 → verdict = .reject)) ∧
  (∀ (l : List Octet) (g : Message), messageOf l = some g → g.dest = l.getD 0 0 ∧ g.source = l.getD 1 0 ∧
    g.hop ++ (match g.kind with
      | .identify => 1#4
      | .data => 2#4
      | .probe => 3#4
      | .probeReply => 4#4
      | .returned => 5#4) = l.getD 2 0 ∧ g.payload = (l.drop 4).take (l.getD 3 0).toNat) ∧
  (∀ l : List Octet, 1 ≤ (l.getD 2 0).toNat % 16 → (l.getD 2 0).toNat % 16 ≤ 5 → ∃ g, messageOf l = some g) ∧
  ∀ (s : State) (p : Port), s.regs.poreset = false →
    let c := s.channels[p]
    let m := s.peer p
    let leaves (i : Instr) (c' : Channel) : Prop := ∃ t, exec i s = .next t ∧
      t = { s with bus := t.bus, channels := s.channels.set p c', lines := t.lines } ∧
      (∀ q : Port, q ≠ p → t.lines[q] = s.lines[q]) ∧
      t.lines[p] = { s.lines[p] with
        statusDue := t.lines[p].statusDue, tx := { s.lines[p].tx with slot0 := c'.slot0, marks := c'.marks } } ∧
      t.lines[p].statusDue = (s.lines[p].statusDue || decide (c'.receiver ≠ c.receiver))
    let work := Instr.frameBoundary false [.receiver p] []
    let d : Channel := { c with receiverDue := false }
    let halting (c : Channel) : Channel :=
      { c with receiver := .halting, partialMsg := [], stallTimer := none, halt := true, haltTimer := some 0 }
    (s.lines[p].line.runs = true → c.receiverDue = true →
      (m.ready = false → leaves work d) ∧
      (m.ready = true → m.quit = true → c.receiver ≠ .receiving → leaves work { d with take := m.offer }) ∧
      (m.ready = true → m.quit = true → c.receiver = .receiving →
        leaves work { d with take := m.offer, receiver := .idle, partialMsg := [], stallTimer := none }) ∧
      (m.ready = true → m.quit = false → m.offer = c.take → leaves work d) ∧
      (m.ready = true → m.quit = false → m.offer ≠ c.take → c.receiver = .halting → leaves work d) ∧
      (m.ready = true → m.quit = false → m.offer ≠ c.take → c.receiver = .idle →
        (∀ g, c.holding = some g → leaves work d) ∧
        (c.holding = none → m.last = true → leaves work (halting d)) ∧
        (c.holding = none → m.last = false →
          leaves work { d with take := m.offer, partialMsg := [m.byte], stallTimer := some 0, receiver := .receiving })) ∧
      (m.ready = true → m.quit = false → m.offer ≠ c.take → c.receiver = .receiving →
        let verdict := judgeByte (s.lines[p].line == .ready) c.partialMsg m.byte m.last
        let ended : Channel := { d with take := m.offer, partialMsg := [], stallTimer := none, receiver := .idle }
        (verdict = .reject → leaves work (halting d)) ∧
        (verdict = .accept →
          leaves work { d with take := m.offer, partialMsg := c.partialMsg ++ [m.byte], stallTimer := some 0 }) ∧
        (∀ g, verdict = .complete → messageOf (c.partialMsg ++ [m.byte]) = some g → g.kind = .identify →
          leaves work { ended with holding := some g }) ∧
        (∀ g, verdict = .complete → messageOf (c.partialMsg ++ [m.byte]) = some g → g.kind ≠ .identify → ∃ t, exec work s = .next t ∧
          (let u := ({ s with bus := {}, channels := s.channels.set p { ended with holding := some g } } : State).handToRouter p g
           t = { u with lines := t.lines }) ∧
          (∀ q : Port, q ≠ p → t.lines[q] = s.lines[q]) ∧
          t.lines[p] = { s.lines[p] with
            statusDue := true, tx := { s.lines[p].tx with slot0 := t.channels[p].slot0, marks := t.channels[p].marks } }) ∧
        (∀ g l ls, verdict = .complete → messageOf (c.partialMsg ++ [m.byte]) = some g → g.kind = .data →
          g.dest = s.router.node → s.router.listens = l :: ls → ∃ t, exec work s = .next t ∧
            t.channels[p] = { ended with holding := none } ∧ t.router.listens = ls ∧
            t.retire = s.retire ++ [.retire l .done (BitVec.ofNat 8 p.val) (deliveryResults g) false]))) ∧
    (∀ n, c.receiver = .receiving → c.stallTimer = some n → 64 ≤ n → leaves (.stallTimerExpiry p) (halting c)) ∧
    (∀ n, c.stallTimer = some n → n < 64 → exec (.stallTimerExpiry p) s = .next s) ∧
    (∀ n, c.receiver = .halting → c.haltTimer = some n → 2 ≤ n →
      let freed : Channel := { c with receiver := .idle, halt := false, haltTimer := none }
      let ends (c' : Channel) : Prop := leaves (.haltTimerExpiry p) c'
      (m.ready = false → ends freed) ∧
      (m.ready = true → m.quit = true → ends { freed with take := m.offer }) ∧
      (m.ready = true → m.quit = false → m.offer = c.take → ends freed) ∧
      (∀ g, m.ready = true → m.quit = false → m.offer ≠ c.take → c.holding = some g → ends freed) ∧
      (m.ready = true → m.quit = false → m.offer ≠ c.take → c.holding = none → m.last = true → ends (halting freed)) ∧
      (m.ready = true → m.quit = false → m.offer ≠ c.take → c.holding = none → m.last = false →
        ends { freed with take := m.offer, partialMsg := [m.byte], stallTimer := some 0, receiver := .receiving })) ∧
    (∀ n, c.haltTimer = some n → n < 2 → exec (.haltTimerExpiry p) s = .next s)

/-! ### Waits in the router (08) -/

/-- A held message for this node is tried again at each boundary: it fills the oldest LISTEN if there is one, and else has
waited one frame more; at the 64th boundary it is dropped, and a DATA brings its sender a RETURNED with NO_LISTENER. Any message
that waits, for the pool or for a queue, meets the routing decision afresh at each boundary, and at the 64th is dropped
NO_LISTENER or CONGESTED. A message handed over waits with 0 frames waited. NO_REPLY retires the oldest PROBE whose time is up.
The model's own here: marks of due work (tickDue, retryDue; log 3), HOLDING_WAIT_EXPIRY and NO_REPLY make the last count
themselves (log 14), of several PROBEs the oldest first (log 42). -/
def Obligations.HoldingWaitsAndNoReply : Prop :=
  (∀ (s : State) (p : Port) (w : HoldingWait) (m : Message), s.regs.poreset = false → s.router.waits[p] = some w →
    s.channels[p].holding = some m → s.router.retryDue[p] = true → m.kind = .data ∨ m.kind = .returned →
    m.dest = s.router.node →
    let emptied := s.channels.set p { s.channels[p] with holding := none }
    let router (wait : Option HoldingWait) : Router := { s.router with
      waits := s.router.waits.set p wait, retryDue := s.router.retryDue.set p false }
    (∀ l ls, w.waited + 1 < 64 → s.router.listens = l :: ls →
      exec (.frameBoundary false [.retry p] []) s = .next { s with
        bus := {}
        channels := emptied
        router := { router none with listens := ls }
        retire := s.retire ++ [.retire l .done (BitVec.ofNat 8 p.val) (deliveryResults m) false] }) ∧
    (w.waited + 1 < 64 → s.router.listens = [] →
      exec (.frameBoundary false [.retry p] []) s = .next { s with
        bus := {}
        router := router (some { on := .pool, waited := w.waited + 1 }) }) ∧
    (w.waited + 1 < 64 → exec (.holdingWaitExpiry p) s = .next s) ∧
    (∀ l ls, 64 ≤ w.waited + 1 → s.router.listens = l :: ls →
      exec (.holdingWaitExpiry p) s = .next { s with
        channels := emptied
        router := { router none with listens := ls }
        retire := s.retire ++ [.retire l .done (BitVec.ofNat 8 p.val) (deliveryResults m) false] }) ∧
    (64 ≤ w.waited + 1 → s.router.listens = [] → m.kind = .returned →
      exec (.holdingWaitExpiry p) s = .next { s with channels := emptied, router := router none }) ∧
    (∀ q : Port, 64 ≤ w.waited + 1 → s.router.listens = [] → m.kind = .data → s.route m.source = .out q →
      s.queueRoom q = true → ∃ t, exec (.holdingWaitExpiry p) s = .next t ∧
        t = { s with channels := t.channels, router := router none } ∧ t.channels[p].holding = none ∧
        t.channels[q].queue = s.channels[q].queue ++ [{
          msg := { dest := m.source, source := s.router.node, hop := 15, kind := .returned,
                   payload := [m.dest, 0x11, BitVec.ofNat 8 m.payload.length] ++ m.payload.take 8 }
          origin := .router }])) ∧
  (∀ (s : State) (p : Port) (m : Message),
    let emptied (t : State) : State := { t with
      channels := t.channels.set p { t.channels[p] with holding := none }
      router := { t.router with waits := t.router.waits.set p none, retryDue := t.router.retryDue.set p false } }
    let waits (t : State) (on : WaitFor) (n : Nat) : State := { t with
      router := { t.router with waits := t.router.waits.set p (some { on := on, waited := n })
                                retryDue := t.router.retryDue.set p false } }
    (∀ t, s.routeInbound p m = (none, t) → s.handToRouter p m = emptied t) ∧
    (∀ on t, s.routeInbound p m = (some on, t) → s.handToRouter p m = waits t on 0) ∧
    ∀ w, s.regs.poreset = false → s.router.waits[p] = some w → s.channels[p].holding = some m → s.router.retryDue[p] = true →
      let u : State := { s with bus := {} }
      (w.waited + 1 < 64 →
        (∀ t, u.routeInbound p m = (none, t) → exec (.frameBoundary false [.retry p] []) s = .next (emptied t)) ∧
        ∀ on t, u.routeInbound p m = (some on, t) →
          exec (.frameBoundary false [.retry p] []) s = .next (waits t on (w.waited + 1))) ∧
      (64 ≤ w.waited + 1 →
        (∀ t, s.routeInbound p m = (none, t) → exec (.holdingWaitExpiry p) s = .next (emptied t)) ∧
        ∀ on t, s.routeInbound p m = (some on, t) → exec (.holdingWaitExpiry p) s = .next (emptied
          (t.dropMessage m (match on with
            | .queue _ => .congested
            | .pool => .noListener))))) ∧
  (∀ (s : State) (before after : List ProbeEntry) (e : ProbeEntry), s.regs.poreset = false →
    s.router.probes = before ++ e :: after → e.tickDue = true → e.blocks ≤ 1 →
    (∀ f ∈ before, f.tickDue = false ∨ 2 ≤ f.blocks) →
    exec .noReply s = .next { s with
      router := { s.router with probes := before ++ after }
      retire := s.retire ++ [.retire e.held .noReply 0 [] false] }) ∧
  ∀ s : State, s.regs.poreset = false → (∀ f ∈ s.router.probes, f.tickDue = false ∨ 2 ≤ f.blocks) → exec .noReply s = .next s

/-! ### Invariants -/

/-- Memory keeps its canonical form in every step: addresses strictly rise, and no byte is listed that an unlisted address
would read as.
The model's own here: the form itself and the byte of unwritten memory (log 1). -/
def Obligations.MemoryStaysCanonical : Prop := Kept fun s => Memory.wf s.mem = true

/-- Every step keeps the collections, counts and settings within their bounds. -/
def Obligations.StateStaysInRange : Prop := Kept InRange

/-- Every step keeps the walker's count of takes and its one request.
The model's own here: a take, that of a kept record too, waits for its request (log 8). -/
def Obligations.TakesKeepTheirRequest : Prop := Kept TakeHasItsRequest

/-- Every step keeps the law of references: no stream number that anything names is ever closed under it. -/
def Obligations.ReferencesStayCounted : Prop := Kept ReferencesCounted

/-- The four invariants hold right after reset. -/
def Obligations.InvariantsAtReset : Prop :=
  Memory.wf State.reset.mem = true ∧ InRange State.reset ∧ TakeHasItsRequest State.reset ∧ ReferencesCounted State.reset
end

