-- ==== Sys2Proof/Laws/State.lean ====
section
/-! SUPPORT. What each update of one block does to each field of the state, true by rfl. -/

namespace Sys2Proof.Machine

/-! ### onRegs -/

@[simp] theorem State.onRegs_pending (s : State) (f : Registers → Registers) : (s.onRegs f).pending = s.pending := rfl
@[simp] theorem State.onRegs_mem (s : State) (f : Registers → Registers) : (s.onRegs f).mem = s.mem := rfl
@[simp] theorem State.onRegs_bus (s : State) (f : Registers → Registers) : (s.onRegs f).bus = s.bus := rfl
@[simp] theorem State.onRegs_regs (s : State) (f : Registers → Registers) : (s.onRegs f).regs = f s.regs := rfl
@[simp] theorem State.onRegs_walker (s : State) (f : Registers → Registers) : (s.onRegs f).walker = s.walker := rfl
@[simp] theorem State.onRegs_retire (s : State) (f : Registers → Registers) : (s.onRegs f).retire = s.retire := rfl
@[simp] theorem State.onRegs_timer (s : State) (f : Registers → Registers) : (s.onRegs f).timer = s.timer := rfl
@[simp] theorem State.onRegs_lines (s : State) (f : Registers → Registers) : (s.onRegs f).lines = s.lines := rfl
@[simp] theorem State.onRegs_channels (s : State) (f : Registers → Registers) : (s.onRegs f).channels = s.channels := rfl
@[simp] theorem State.onRegs_switch (s : State) (f : Registers → Registers) : (s.onRegs f).switch = s.switch := rfl
@[simp] theorem State.onRegs_activity (s : State) (f : Registers → Registers) : (s.onRegs f).activity = s.activity := rfl
@[simp] theorem State.onRegs_groups (s : State) (f : Registers → Registers) : (s.onRegs f).groups = s.groups := rfl
@[simp] theorem State.onRegs_streams (s : State) (f : Registers → Registers) : (s.onRegs f).streams = s.streams := rfl
@[simp] theorem State.onRegs_router (s : State) (f : Registers → Registers) : (s.onRegs f).router = s.router := rfl
@[simp] theorem State.onRegs_supervision (s : State) (f : Registers → Registers) : (s.onRegs f).supervision = s.supervision := rfl

/-! ### onWalker -/

@[simp] theorem State.onWalker_pending (s : State) (f : Walker → Walker) : (s.onWalker f).pending = s.pending := rfl
@[simp] theorem State.onWalker_mem (s : State) (f : Walker → Walker) : (s.onWalker f).mem = s.mem := rfl
@[simp] theorem State.onWalker_bus (s : State) (f : Walker → Walker) : (s.onWalker f).bus = s.bus := rfl
@[simp] theorem State.onWalker_regs (s : State) (f : Walker → Walker) : (s.onWalker f).regs = s.regs := rfl
@[simp] theorem State.onWalker_walker (s : State) (f : Walker → Walker) : (s.onWalker f).walker = f s.walker := rfl
@[simp] theorem State.onWalker_retire (s : State) (f : Walker → Walker) : (s.onWalker f).retire = s.retire := rfl
@[simp] theorem State.onWalker_timer (s : State) (f : Walker → Walker) : (s.onWalker f).timer = s.timer := rfl
@[simp] theorem State.onWalker_lines (s : State) (f : Walker → Walker) : (s.onWalker f).lines = s.lines := rfl
@[simp] theorem State.onWalker_channels (s : State) (f : Walker → Walker) : (s.onWalker f).channels = s.channels := rfl
@[simp] theorem State.onWalker_switch (s : State) (f : Walker → Walker) : (s.onWalker f).switch = s.switch := rfl
@[simp] theorem State.onWalker_activity (s : State) (f : Walker → Walker) : (s.onWalker f).activity = s.activity := rfl
@[simp] theorem State.onWalker_groups (s : State) (f : Walker → Walker) : (s.onWalker f).groups = s.groups := rfl
@[simp] theorem State.onWalker_streams (s : State) (f : Walker → Walker) : (s.onWalker f).streams = s.streams := rfl
@[simp] theorem State.onWalker_router (s : State) (f : Walker → Walker) : (s.onWalker f).router = s.router := rfl
@[simp] theorem State.onWalker_supervision (s : State) (f : Walker → Walker) : (s.onWalker f).supervision = s.supervision := rfl

/-! ### onTimer -/

@[simp] theorem State.onTimer_pending (s : State) (f : FrameTimer → FrameTimer) : (s.onTimer f).pending = s.pending := rfl
@[simp] theorem State.onTimer_mem (s : State) (f : FrameTimer → FrameTimer) : (s.onTimer f).mem = s.mem := rfl
@[simp] theorem State.onTimer_bus (s : State) (f : FrameTimer → FrameTimer) : (s.onTimer f).bus = s.bus := rfl
@[simp] theorem State.onTimer_regs (s : State) (f : FrameTimer → FrameTimer) : (s.onTimer f).regs = s.regs := rfl
@[simp] theorem State.onTimer_walker (s : State) (f : FrameTimer → FrameTimer) : (s.onTimer f).walker = s.walker := rfl
@[simp] theorem State.onTimer_retire (s : State) (f : FrameTimer → FrameTimer) : (s.onTimer f).retire = s.retire := rfl
@[simp] theorem State.onTimer_timer (s : State) (f : FrameTimer → FrameTimer) : (s.onTimer f).timer = f s.timer := rfl
@[simp] theorem State.onTimer_lines (s : State) (f : FrameTimer → FrameTimer) : (s.onTimer f).lines = s.lines := rfl
@[simp] theorem State.onTimer_channels (s : State) (f : FrameTimer → FrameTimer) : (s.onTimer f).channels = s.channels := rfl
@[simp] theorem State.onTimer_switch (s : State) (f : FrameTimer → FrameTimer) : (s.onTimer f).switch = s.switch := rfl
@[simp] theorem State.onTimer_activity (s : State) (f : FrameTimer → FrameTimer) : (s.onTimer f).activity = s.activity := rfl
@[simp] theorem State.onTimer_groups (s : State) (f : FrameTimer → FrameTimer) : (s.onTimer f).groups = s.groups := rfl
@[simp] theorem State.onTimer_streams (s : State) (f : FrameTimer → FrameTimer) : (s.onTimer f).streams = s.streams := rfl
@[simp] theorem State.onTimer_router (s : State) (f : FrameTimer → FrameTimer) : (s.onTimer f).router = s.router := rfl
@[simp] theorem State.onTimer_supervision (s : State) (f : FrameTimer → FrameTimer) : (s.onTimer f).supervision = s.supervision := rfl

/-! ### onLine -/

@[simp] theorem State.onLine_pending (s : State) (p : Port) (f : LineUnit → LineUnit) : (s.onLine p f).pending = s.pending := rfl
@[simp] theorem State.onLine_mem (s : State) (p : Port) (f : LineUnit → LineUnit) : (s.onLine p f).mem = s.mem := rfl
@[simp] theorem State.onLine_bus (s : State) (p : Port) (f : LineUnit → LineUnit) : (s.onLine p f).bus = s.bus := rfl
@[simp] theorem State.onLine_regs (s : State) (p : Port) (f : LineUnit → LineUnit) : (s.onLine p f).regs = s.regs := rfl
@[simp] theorem State.onLine_walker (s : State) (p : Port) (f : LineUnit → LineUnit) : (s.onLine p f).walker = s.walker := rfl
@[simp] theorem State.onLine_retire (s : State) (p : Port) (f : LineUnit → LineUnit) : (s.onLine p f).retire = s.retire := rfl
@[simp] theorem State.onLine_timer (s : State) (p : Port) (f : LineUnit → LineUnit) : (s.onLine p f).timer = s.timer := rfl
@[simp] theorem State.onLine_lines (s : State) (p : Port) (f : LineUnit → LineUnit) : (s.onLine p f).lines = updAt s.lines p f := rfl
@[simp] theorem State.onLine_channels (s : State) (p : Port) (f : LineUnit → LineUnit) : (s.onLine p f).channels = s.channels := rfl
@[simp] theorem State.onLine_switch (s : State) (p : Port) (f : LineUnit → LineUnit) : (s.onLine p f).switch = s.switch := rfl
@[simp] theorem State.onLine_activity (s : State) (p : Port) (f : LineUnit → LineUnit) : (s.onLine p f).activity = s.activity := rfl
@[simp] theorem State.onLine_groups (s : State) (p : Port) (f : LineUnit → LineUnit) : (s.onLine p f).groups = s.groups := rfl
@[simp] theorem State.onLine_streams (s : State) (p : Port) (f : LineUnit → LineUnit) : (s.onLine p f).streams = s.streams := rfl
@[simp] theorem State.onLine_router (s : State) (p : Port) (f : LineUnit → LineUnit) : (s.onLine p f).router = s.router := rfl
@[simp] theorem State.onLine_supervision (s : State) (p : Port) (f : LineUnit → LineUnit) : (s.onLine p f).supervision = s.supervision := rfl

/-! ### onChannel -/

@[simp] theorem State.onChannel_pending (s : State) (p : Port) (f : Channel → Channel) : (s.onChannel p f).pending = s.pending := rfl
@[simp] theorem State.onChannel_mem (s : State) (p : Port) (f : Channel → Channel) : (s.onChannel p f).mem = s.mem := rfl
@[simp] theorem State.onChannel_bus (s : State) (p : Port) (f : Channel → Channel) : (s.onChannel p f).bus = s.bus := rfl
@[simp] theorem State.onChannel_regs (s : State) (p : Port) (f : Channel → Channel) : (s.onChannel p f).regs = s.regs := rfl
@[simp] theorem State.onChannel_walker (s : State) (p : Port) (f : Channel → Channel) : (s.onChannel p f).walker = s.walker := rfl
@[simp] theorem State.onChannel_retire (s : State) (p : Port) (f : Channel → Channel) : (s.onChannel p f).retire = s.retire := rfl
@[simp] theorem State.onChannel_timer (s : State) (p : Port) (f : Channel → Channel) : (s.onChannel p f).timer = s.timer := rfl
@[simp] theorem State.onChannel_lines (s : State) (p : Port) (f : Channel → Channel) : (s.onChannel p f).lines = s.lines := rfl
@[simp] theorem State.onChannel_channels (s : State) (p : Port) (f : Channel → Channel) : (s.onChannel p f).channels = updAt s.channels p f := rfl
@[simp] theorem State.onChannel_switch (s : State) (p : Port) (f : Channel → Channel) : (s.onChannel p f).switch = s.switch := rfl
@[simp] theorem State.onChannel_activity (s : State) (p : Port) (f : Channel → Channel) : (s.onChannel p f).activity = s.activity := rfl
@[simp] theorem State.onChannel_groups (s : State) (p : Port) (f : Channel → Channel) : (s.onChannel p f).groups = s.groups := rfl
@[simp] theorem State.onChannel_streams (s : State) (p : Port) (f : Channel → Channel) : (s.onChannel p f).streams = s.streams := rfl
@[simp] theorem State.onChannel_router (s : State) (p : Port) (f : Channel → Channel) : (s.onChannel p f).router = s.router := rfl
@[simp] theorem State.onChannel_supervision (s : State) (p : Port) (f : Channel → Channel) : (s.onChannel p f).supervision = s.supervision := rfl

/-! ### onSwitch -/

@[simp] theorem State.onSwitch_pending (s : State) (f : Switch → Switch) : (s.onSwitch f).pending = s.pending := rfl
@[simp] theorem State.onSwitch_mem (s : State) (f : Switch → Switch) : (s.onSwitch f).mem = s.mem := rfl
@[simp] theorem State.onSwitch_bus (s : State) (f : Switch → Switch) : (s.onSwitch f).bus = s.bus := rfl
@[simp] theorem State.onSwitch_regs (s : State) (f : Switch → Switch) : (s.onSwitch f).regs = s.regs := rfl
@[simp] theorem State.onSwitch_walker (s : State) (f : Switch → Switch) : (s.onSwitch f).walker = s.walker := rfl
@[simp] theorem State.onSwitch_retire (s : State) (f : Switch → Switch) : (s.onSwitch f).retire = s.retire := rfl
@[simp] theorem State.onSwitch_timer (s : State) (f : Switch → Switch) : (s.onSwitch f).timer = s.timer := rfl
@[simp] theorem State.onSwitch_lines (s : State) (f : Switch → Switch) : (s.onSwitch f).lines = s.lines := rfl
@[simp] theorem State.onSwitch_channels (s : State) (f : Switch → Switch) : (s.onSwitch f).channels = s.channels := rfl
@[simp] theorem State.onSwitch_switch (s : State) (f : Switch → Switch) : (s.onSwitch f).switch = f s.switch := rfl
@[simp] theorem State.onSwitch_activity (s : State) (f : Switch → Switch) : (s.onSwitch f).activity = s.activity := rfl
@[simp] theorem State.onSwitch_groups (s : State) (f : Switch → Switch) : (s.onSwitch f).groups = s.groups := rfl
@[simp] theorem State.onSwitch_streams (s : State) (f : Switch → Switch) : (s.onSwitch f).streams = s.streams := rfl
@[simp] theorem State.onSwitch_router (s : State) (f : Switch → Switch) : (s.onSwitch f).router = s.router := rfl
@[simp] theorem State.onSwitch_supervision (s : State) (f : Switch → Switch) : (s.onSwitch f).supervision = s.supervision := rfl

/-! ### onActivity -/

@[simp] theorem State.onActivity_pending (s : State) (f : Activity → Activity) : (s.onActivity f).pending = s.pending := rfl
@[simp] theorem State.onActivity_mem (s : State) (f : Activity → Activity) : (s.onActivity f).mem = s.mem := rfl
@[simp] theorem State.onActivity_bus (s : State) (f : Activity → Activity) : (s.onActivity f).bus = s.bus := rfl
@[simp] theorem State.onActivity_regs (s : State) (f : Activity → Activity) : (s.onActivity f).regs = s.regs := rfl
@[simp] theorem State.onActivity_walker (s : State) (f : Activity → Activity) : (s.onActivity f).walker = s.walker := rfl
@[simp] theorem State.onActivity_retire (s : State) (f : Activity → Activity) : (s.onActivity f).retire = s.retire := rfl
@[simp] theorem State.onActivity_timer (s : State) (f : Activity → Activity) : (s.onActivity f).timer = s.timer := rfl
@[simp] theorem State.onActivity_lines (s : State) (f : Activity → Activity) : (s.onActivity f).lines = s.lines := rfl
@[simp] theorem State.onActivity_channels (s : State) (f : Activity → Activity) : (s.onActivity f).channels = s.channels := rfl
@[simp] theorem State.onActivity_switch (s : State) (f : Activity → Activity) : (s.onActivity f).switch = s.switch := rfl
@[simp] theorem State.onActivity_activity (s : State) (f : Activity → Activity) : (s.onActivity f).activity = f s.activity := rfl
@[simp] theorem State.onActivity_groups (s : State) (f : Activity → Activity) : (s.onActivity f).groups = s.groups := rfl
@[simp] theorem State.onActivity_streams (s : State) (f : Activity → Activity) : (s.onActivity f).streams = s.streams := rfl
@[simp] theorem State.onActivity_router (s : State) (f : Activity → Activity) : (s.onActivity f).router = s.router := rfl
@[simp] theorem State.onActivity_supervision (s : State) (f : Activity → Activity) : (s.onActivity f).supervision = s.supervision := rfl

/-! ### onGroup -/

@[simp] theorem State.onGroup_pending (s : State) (g : GroupNo) (f : ScanGroup → ScanGroup) : (s.onGroup g f).pending = s.pending := rfl
@[simp] theorem State.onGroup_mem (s : State) (g : GroupNo) (f : ScanGroup → ScanGroup) : (s.onGroup g f).mem = s.mem := rfl
@[simp] theorem State.onGroup_bus (s : State) (g : GroupNo) (f : ScanGroup → ScanGroup) : (s.onGroup g f).bus = s.bus := rfl
@[simp] theorem State.onGroup_regs (s : State) (g : GroupNo) (f : ScanGroup → ScanGroup) : (s.onGroup g f).regs = s.regs := rfl
@[simp] theorem State.onGroup_walker (s : State) (g : GroupNo) (f : ScanGroup → ScanGroup) : (s.onGroup g f).walker = s.walker := rfl
@[simp] theorem State.onGroup_retire (s : State) (g : GroupNo) (f : ScanGroup → ScanGroup) : (s.onGroup g f).retire = s.retire := rfl
@[simp] theorem State.onGroup_timer (s : State) (g : GroupNo) (f : ScanGroup → ScanGroup) : (s.onGroup g f).timer = s.timer := rfl
@[simp] theorem State.onGroup_lines (s : State) (g : GroupNo) (f : ScanGroup → ScanGroup) : (s.onGroup g f).lines = s.lines := rfl
@[simp] theorem State.onGroup_channels (s : State) (g : GroupNo) (f : ScanGroup → ScanGroup) : (s.onGroup g f).channels = s.channels := rfl
@[simp] theorem State.onGroup_switch (s : State) (g : GroupNo) (f : ScanGroup → ScanGroup) : (s.onGroup g f).switch = s.switch := rfl
@[simp] theorem State.onGroup_activity (s : State) (g : GroupNo) (f : ScanGroup → ScanGroup) : (s.onGroup g f).activity = s.activity := rfl
@[simp] theorem State.onGroup_groups (s : State) (g : GroupNo) (f : ScanGroup → ScanGroup) : (s.onGroup g f).groups = updAt s.groups g f := rfl
@[simp] theorem State.onGroup_streams (s : State) (g : GroupNo) (f : ScanGroup → ScanGroup) : (s.onGroup g f).streams = s.streams := rfl
@[simp] theorem State.onGroup_router (s : State) (g : GroupNo) (f : ScanGroup → ScanGroup) : (s.onGroup g f).router = s.router := rfl
@[simp] theorem State.onGroup_supervision (s : State) (g : GroupNo) (f : ScanGroup → ScanGroup) : (s.onGroup g f).supervision = s.supervision := rfl

/-! ### onStream -/

@[simp] theorem State.onStream_pending (s : State) (n : StreamNo) (f : Stream → Stream) : (s.onStream n f).pending = s.pending := rfl
@[simp] theorem State.onStream_mem (s : State) (n : StreamNo) (f : Stream → Stream) : (s.onStream n f).mem = s.mem := rfl
@[simp] theorem State.onStream_bus (s : State) (n : StreamNo) (f : Stream → Stream) : (s.onStream n f).bus = s.bus := rfl
@[simp] theorem State.onStream_regs (s : State) (n : StreamNo) (f : Stream → Stream) : (s.onStream n f).regs = s.regs := rfl
@[simp] theorem State.onStream_walker (s : State) (n : StreamNo) (f : Stream → Stream) : (s.onStream n f).walker = s.walker := rfl
@[simp] theorem State.onStream_retire (s : State) (n : StreamNo) (f : Stream → Stream) : (s.onStream n f).retire = s.retire := rfl
@[simp] theorem State.onStream_timer (s : State) (n : StreamNo) (f : Stream → Stream) : (s.onStream n f).timer = s.timer := rfl
@[simp] theorem State.onStream_lines (s : State) (n : StreamNo) (f : Stream → Stream) : (s.onStream n f).lines = s.lines := rfl
@[simp] theorem State.onStream_channels (s : State) (n : StreamNo) (f : Stream → Stream) : (s.onStream n f).channels = s.channels := rfl
@[simp] theorem State.onStream_switch (s : State) (n : StreamNo) (f : Stream → Stream) : (s.onStream n f).switch = s.switch := rfl
@[simp] theorem State.onStream_activity (s : State) (n : StreamNo) (f : Stream → Stream) : (s.onStream n f).activity = s.activity := rfl
@[simp] theorem State.onStream_groups (s : State) (n : StreamNo) (f : Stream → Stream) : (s.onStream n f).groups = s.groups := rfl
@[simp] theorem State.onStream_streams (s : State) (n : StreamNo) (f : Stream → Stream) : (s.onStream n f).streams = updAt s.streams n f := rfl
@[simp] theorem State.onStream_router (s : State) (n : StreamNo) (f : Stream → Stream) : (s.onStream n f).router = s.router := rfl
@[simp] theorem State.onStream_supervision (s : State) (n : StreamNo) (f : Stream → Stream) : (s.onStream n f).supervision = s.supervision := rfl

/-! ### onRouter -/

@[simp] theorem State.onRouter_pending (s : State) (f : Router → Router) : (s.onRouter f).pending = s.pending := rfl
@[simp] theorem State.onRouter_mem (s : State) (f : Router → Router) : (s.onRouter f).mem = s.mem := rfl
@[simp] theorem State.onRouter_bus (s : State) (f : Router → Router) : (s.onRouter f).bus = s.bus := rfl
@[simp] theorem State.onRouter_regs (s : State) (f : Router → Router) : (s.onRouter f).regs = s.regs := rfl
@[simp] theorem State.onRouter_walker (s : State) (f : Router → Router) : (s.onRouter f).walker = s.walker := rfl
@[simp] theorem State.onRouter_retire (s : State) (f : Router → Router) : (s.onRouter f).retire = s.retire := rfl
@[simp] theorem State.onRouter_timer (s : State) (f : Router → Router) : (s.onRouter f).timer = s.timer := rfl
@[simp] theorem State.onRouter_lines (s : State) (f : Router → Router) : (s.onRouter f).lines = s.lines := rfl
@[simp] theorem State.onRouter_channels (s : State) (f : Router → Router) : (s.onRouter f).channels = s.channels := rfl
@[simp] theorem State.onRouter_switch (s : State) (f : Router → Router) : (s.onRouter f).switch = s.switch := rfl
@[simp] theorem State.onRouter_activity (s : State) (f : Router → Router) : (s.onRouter f).activity = s.activity := rfl
@[simp] theorem State.onRouter_groups (s : State) (f : Router → Router) : (s.onRouter f).groups = s.groups := rfl
@[simp] theorem State.onRouter_streams (s : State) (f : Router → Router) : (s.onRouter f).streams = s.streams := rfl
@[simp] theorem State.onRouter_router (s : State) (f : Router → Router) : (s.onRouter f).router = f s.router := rfl
@[simp] theorem State.onRouter_supervision (s : State) (f : Router → Router) : (s.onRouter f).supervision = s.supervision := rfl

/-! ### onSupervision -/

@[simp] theorem State.onSupervision_pending (s : State) (f : Supervision → Supervision) : (s.onSupervision f).pending = s.pending := rfl
@[simp] theorem State.onSupervision_mem (s : State) (f : Supervision → Supervision) : (s.onSupervision f).mem = s.mem := rfl
@[simp] theorem State.onSupervision_bus (s : State) (f : Supervision → Supervision) : (s.onSupervision f).bus = s.bus := rfl
@[simp] theorem State.onSupervision_regs (s : State) (f : Supervision → Supervision) : (s.onSupervision f).regs = s.regs := rfl
@[simp] theorem State.onSupervision_walker (s : State) (f : Supervision → Supervision) : (s.onSupervision f).walker = s.walker := rfl
@[simp] theorem State.onSupervision_retire (s : State) (f : Supervision → Supervision) : (s.onSupervision f).retire = s.retire := rfl
@[simp] theorem State.onSupervision_timer (s : State) (f : Supervision → Supervision) : (s.onSupervision f).timer = s.timer := rfl
@[simp] theorem State.onSupervision_lines (s : State) (f : Supervision → Supervision) : (s.onSupervision f).lines = s.lines := rfl
@[simp] theorem State.onSupervision_channels (s : State) (f : Supervision → Supervision) : (s.onSupervision f).channels = s.channels := rfl
@[simp] theorem State.onSupervision_switch (s : State) (f : Supervision → Supervision) : (s.onSupervision f).switch = s.switch := rfl
@[simp] theorem State.onSupervision_activity (s : State) (f : Supervision → Supervision) : (s.onSupervision f).activity = s.activity := rfl
@[simp] theorem State.onSupervision_groups (s : State) (f : Supervision → Supervision) : (s.onSupervision f).groups = s.groups := rfl
@[simp] theorem State.onSupervision_streams (s : State) (f : Supervision → Supervision) : (s.onSupervision f).streams = s.streams := rfl
@[simp] theorem State.onSupervision_router (s : State) (f : Supervision → Supervision) : (s.onSupervision f).router = s.router := rfl
@[simp] theorem State.onSupervision_supervision (s : State) (f : Supervision → Supervision) : (s.onSupervision f).supervision = f s.supervision := rfl

/-! ### addRequest -/

@[simp] theorem State.addRequest_pending (s : State) (r : Request) : (s.addRequest r).pending = s.pending := rfl
@[simp] theorem State.addRequest_mem (s : State) (r : Request) : (s.addRequest r).mem = s.mem := rfl
@[simp] theorem State.addRequest_bus (s : State) (r : Request) : (s.addRequest r).bus = s.bus := rfl
@[simp] theorem State.addRequest_regs (s : State) (r : Request) : (s.addRequest r).regs = s.regs := rfl
@[simp] theorem State.addRequest_walker (s : State) (r : Request) : (s.addRequest r).walker = s.walker := rfl
@[simp] theorem State.addRequest_retire (s : State) (r : Request) : (s.addRequest r).retire = s.retire ++ [r] := rfl
@[simp] theorem State.addRequest_timer (s : State) (r : Request) : (s.addRequest r).timer = s.timer := rfl
@[simp] theorem State.addRequest_lines (s : State) (r : Request) : (s.addRequest r).lines = s.lines := rfl
@[simp] theorem State.addRequest_channels (s : State) (r : Request) : (s.addRequest r).channels = s.channels := rfl
@[simp] theorem State.addRequest_switch (s : State) (r : Request) : (s.addRequest r).switch = s.switch := rfl
@[simp] theorem State.addRequest_activity (s : State) (r : Request) : (s.addRequest r).activity = s.activity := rfl
@[simp] theorem State.addRequest_groups (s : State) (r : Request) : (s.addRequest r).groups = s.groups := rfl
@[simp] theorem State.addRequest_streams (s : State) (r : Request) : (s.addRequest r).streams = s.streams := rfl
@[simp] theorem State.addRequest_router (s : State) (r : Request) : (s.addRequest r).router = s.router := rfl
@[simp] theorem State.addRequest_supervision (s : State) (r : Request) : (s.addRequest r).supervision = s.supervision := rfl

/-! ### withPending -/

@[simp] theorem State.withPending_pending (s : State) (q : List Instr) : (s.withPending q).pending = q := rfl
@[simp] theorem State.withPending_mem (s : State) (q : List Instr) : (s.withPending q).mem = s.mem := rfl
@[simp] theorem State.withPending_bus (s : State) (q : List Instr) : (s.withPending q).bus = s.bus := rfl
@[simp] theorem State.withPending_regs (s : State) (q : List Instr) : (s.withPending q).regs = s.regs := rfl
@[simp] theorem State.withPending_walker (s : State) (q : List Instr) : (s.withPending q).walker = s.walker := rfl
@[simp] theorem State.withPending_retire (s : State) (q : List Instr) : (s.withPending q).retire = s.retire := rfl
@[simp] theorem State.withPending_timer (s : State) (q : List Instr) : (s.withPending q).timer = s.timer := rfl
@[simp] theorem State.withPending_lines (s : State) (q : List Instr) : (s.withPending q).lines = s.lines := rfl
@[simp] theorem State.withPending_channels (s : State) (q : List Instr) : (s.withPending q).channels = s.channels := rfl
@[simp] theorem State.withPending_switch (s : State) (q : List Instr) : (s.withPending q).switch = s.switch := rfl
@[simp] theorem State.withPending_activity (s : State) (q : List Instr) : (s.withPending q).activity = s.activity := rfl
@[simp] theorem State.withPending_groups (s : State) (q : List Instr) : (s.withPending q).groups = s.groups := rfl
@[simp] theorem State.withPending_streams (s : State) (q : List Instr) : (s.withPending q).streams = s.streams := rfl
@[simp] theorem State.withPending_router (s : State) (q : List Instr) : (s.withPending q).router = s.router := rfl
@[simp] theorem State.withPending_supervision (s : State) (q : List Instr) : (s.withPending q).supervision = s.supervision := rfl

/-! ### dropRequest -/

@[simp] theorem State.dropRequest_pending (s : State) : s.dropRequest.pending = s.pending := rfl
@[simp] theorem State.dropRequest_mem (s : State) : s.dropRequest.mem = s.mem := rfl
@[simp] theorem State.dropRequest_bus (s : State) : s.dropRequest.bus = s.bus := rfl
@[simp] theorem State.dropRequest_regs (s : State) : s.dropRequest.regs = s.regs := rfl
@[simp] theorem State.dropRequest_walker (s : State) : s.dropRequest.walker = s.walker := rfl
@[simp] theorem State.dropRequest_retire (s : State) : s.dropRequest.retire = s.retire.tail := rfl
@[simp] theorem State.dropRequest_timer (s : State) : s.dropRequest.timer = s.timer := rfl
@[simp] theorem State.dropRequest_lines (s : State) : s.dropRequest.lines = s.lines := rfl
@[simp] theorem State.dropRequest_channels (s : State) : s.dropRequest.channels = s.channels := rfl
@[simp] theorem State.dropRequest_switch (s : State) : s.dropRequest.switch = s.switch := rfl
@[simp] theorem State.dropRequest_activity (s : State) : s.dropRequest.activity = s.activity := rfl
@[simp] theorem State.dropRequest_groups (s : State) : s.dropRequest.groups = s.groups := rfl
@[simp] theorem State.dropRequest_streams (s : State) : s.dropRequest.streams = s.streams := rfl
@[simp] theorem State.dropRequest_router (s : State) : s.dropRequest.router = s.router := rfl
@[simp] theorem State.dropRequest_supervision (s : State) : s.dropRequest.supervision = s.supervision := rfl

/-! ### setBus -/

@[simp] theorem State.setBus_pending (s : State) (b : Bus) : (s.setBus b).pending = s.pending := rfl
@[simp] theorem State.setBus_mem (s : State) (b : Bus) : (s.setBus b).mem = s.mem := rfl
@[simp] theorem State.setBus_bus (s : State) (b : Bus) : (s.setBus b).bus = b := rfl
@[simp] theorem State.setBus_regs (s : State) (b : Bus) : (s.setBus b).regs = s.regs := rfl
@[simp] theorem State.setBus_walker (s : State) (b : Bus) : (s.setBus b).walker = s.walker := rfl
@[simp] theorem State.setBus_retire (s : State) (b : Bus) : (s.setBus b).retire = s.retire := rfl
@[simp] theorem State.setBus_timer (s : State) (b : Bus) : (s.setBus b).timer = s.timer := rfl
@[simp] theorem State.setBus_lines (s : State) (b : Bus) : (s.setBus b).lines = s.lines := rfl
@[simp] theorem State.setBus_channels (s : State) (b : Bus) : (s.setBus b).channels = s.channels := rfl
@[simp] theorem State.setBus_switch (s : State) (b : Bus) : (s.setBus b).switch = s.switch := rfl
@[simp] theorem State.setBus_activity (s : State) (b : Bus) : (s.setBus b).activity = s.activity := rfl
@[simp] theorem State.setBus_groups (s : State) (b : Bus) : (s.setBus b).groups = s.groups := rfl
@[simp] theorem State.setBus_streams (s : State) (b : Bus) : (s.setBus b).streams = s.streams := rfl
@[simp] theorem State.setBus_router (s : State) (b : Bus) : (s.setBus b).router = s.router := rfl
@[simp] theorem State.setBus_supervision (s : State) (b : Bus) : (s.setBus b).supervision = s.supervision := rfl

/-! ### raise, requestRetire, endTake, keepTake, startTake, endWalk, refGain, refLoss -/

@[simp] theorem State.raise_pending (s : State) (c : Cause) : (s.raise c).pending = s.pending := rfl
@[simp] theorem State.raise_mem (s : State) (c : Cause) : (s.raise c).mem = s.mem := rfl
@[simp] theorem State.raise_bus (s : State) (c : Cause) : (s.raise c).bus = s.bus := rfl
@[simp] theorem State.raise_regs (s : State) (c : Cause) : (s.raise c).regs = { s.regs with attnPending := s.regs.attnPending ||| c.bit } := rfl
@[simp] theorem State.raise_walker (s : State) (c : Cause) : (s.raise c).walker = s.walker := rfl
@[simp] theorem State.raise_retire (s : State) (c : Cause) : (s.raise c).retire = s.retire := rfl
@[simp] theorem State.raise_timer (s : State) (c : Cause) : (s.raise c).timer = s.timer := rfl
@[simp] theorem State.raise_lines (s : State) (c : Cause) : (s.raise c).lines = s.lines := rfl
@[simp] theorem State.raise_channels (s : State) (c : Cause) : (s.raise c).channels = s.channels := rfl
@[simp] theorem State.raise_switch (s : State) (c : Cause) : (s.raise c).switch = s.switch := rfl
@[simp] theorem State.raise_activity (s : State) (c : Cause) : (s.raise c).activity = s.activity := rfl
@[simp] theorem State.raise_groups (s : State) (c : Cause) : (s.raise c).groups = s.groups := rfl
@[simp] theorem State.raise_streams (s : State) (c : Cause) : (s.raise c).streams = s.streams := rfl
@[simp] theorem State.raise_router (s : State) (c : Cause) : (s.raise c).router = s.router := rfl
@[simp] theorem State.raise_supervision (s : State) (c : Cause) : (s.raise c).supervision = s.supervision := rfl

@[simp] theorem State.requestRetire_pending (s : State) (h : Held) (o : OutcomeCode) (d : Octet) (r : List (Nat × Word)) : (s.requestRetire h o d r).pending = s.pending := rfl
@[simp] theorem State.requestRetire_mem (s : State) (h : Held) (o : OutcomeCode) (d : Octet) (r : List (Nat × Word)) : (s.requestRetire h o d r).mem = s.mem := rfl
@[simp] theorem State.requestRetire_bus (s : State) (h : Held) (o : OutcomeCode) (d : Octet) (r : List (Nat × Word)) : (s.requestRetire h o d r).bus = s.bus := rfl
@[simp] theorem State.requestRetire_regs (s : State) (h : Held) (o : OutcomeCode) (d : Octet) (r : List (Nat × Word)) : (s.requestRetire h o d r).regs = s.regs := rfl
@[simp] theorem State.requestRetire_walker (s : State) (h : Held) (o : OutcomeCode) (d : Octet) (r : List (Nat × Word)) : (s.requestRetire h o d r).walker = s.walker := rfl
@[simp] theorem State.requestRetire_retire (s : State) (h : Held) (o : OutcomeCode) (d : Octet) (r : List (Nat × Word)) : (s.requestRetire h o d r).retire = s.retire ++ [.retire h o d r false] := rfl
@[simp] theorem State.requestRetire_timer (s : State) (h : Held) (o : OutcomeCode) (d : Octet) (r : List (Nat × Word)) : (s.requestRetire h o d r).timer = s.timer := rfl
@[simp] theorem State.requestRetire_lines (s : State) (h : Held) (o : OutcomeCode) (d : Octet) (r : List (Nat × Word)) : (s.requestRetire h o d r).lines = s.lines := rfl
@[simp] theorem State.requestRetire_channels (s : State) (h : Held) (o : OutcomeCode) (d : Octet) (r : List (Nat × Word)) : (s.requestRetire h o d r).channels = s.channels := rfl
@[simp] theorem State.requestRetire_switch (s : State) (h : Held) (o : OutcomeCode) (d : Octet) (r : List (Nat × Word)) : (s.requestRetire h o d r).switch = s.switch := rfl
@[simp] theorem State.requestRetire_activity (s : State) (h : Held) (o : OutcomeCode) (d : Octet) (r : List (Nat × Word)) : (s.requestRetire h o d r).activity = s.activity := rfl
@[simp] theorem State.requestRetire_groups (s : State) (h : Held) (o : OutcomeCode) (d : Octet) (r : List (Nat × Word)) : (s.requestRetire h o d r).groups = s.groups := rfl
@[simp] theorem State.requestRetire_streams (s : State) (h : Held) (o : OutcomeCode) (d : Octet) (r : List (Nat × Word)) : (s.requestRetire h o d r).streams = s.streams := rfl
@[simp] theorem State.requestRetire_router (s : State) (h : Held) (o : OutcomeCode) (d : Octet) (r : List (Nat × Word)) : (s.requestRetire h o d r).router = s.router := rfl
@[simp] theorem State.requestRetire_supervision (s : State) (h : Held) (o : OutcomeCode) (d : Octet) (r : List (Nat × Word)) : (s.requestRetire h o d r).supervision = s.supervision := rfl

@[simp] theorem State.endTake_pending (s : State) (h : Held) (o : OutcomeCode) (d : Octet) : (s.endTake h o d).pending = s.pending := rfl
@[simp] theorem State.endTake_mem (s : State) (h : Held) (o : OutcomeCode) (d : Octet) : (s.endTake h o d).mem = s.mem := rfl
@[simp] theorem State.endTake_bus (s : State) (h : Held) (o : OutcomeCode) (d : Octet) : (s.endTake h o d).bus = s.bus := rfl
@[simp] theorem State.endTake_regs (s : State) (h : Held) (o : OutcomeCode) (d : Octet) : (s.endTake h o d).regs = s.regs := rfl
@[simp] theorem State.endTake_walker (s : State) (h : Held) (o : OutcomeCode) (d : Octet) : (s.endTake h o d).walker = s.walker := rfl
@[simp] theorem State.endTake_retire (s : State) (h : Held) (o : OutcomeCode) (d : Octet) : (s.endTake h o d).retire = s.retire ++ [.retire h o d [] true] := rfl
@[simp] theorem State.endTake_timer (s : State) (h : Held) (o : OutcomeCode) (d : Octet) : (s.endTake h o d).timer = s.timer := rfl
@[simp] theorem State.endTake_lines (s : State) (h : Held) (o : OutcomeCode) (d : Octet) : (s.endTake h o d).lines = s.lines := rfl
@[simp] theorem State.endTake_channels (s : State) (h : Held) (o : OutcomeCode) (d : Octet) : (s.endTake h o d).channels = s.channels := rfl
@[simp] theorem State.endTake_switch (s : State) (h : Held) (o : OutcomeCode) (d : Octet) : (s.endTake h o d).switch = s.switch := rfl
@[simp] theorem State.endTake_activity (s : State) (h : Held) (o : OutcomeCode) (d : Octet) : (s.endTake h o d).activity = s.activity := rfl
@[simp] theorem State.endTake_groups (s : State) (h : Held) (o : OutcomeCode) (d : Octet) : (s.endTake h o d).groups = s.groups := rfl
@[simp] theorem State.endTake_streams (s : State) (h : Held) (o : OutcomeCode) (d : Octet) : (s.endTake h o d).streams = s.streams := rfl
@[simp] theorem State.endTake_router (s : State) (h : Held) (o : OutcomeCode) (d : Octet) : (s.endTake h o d).router = s.router := rfl
@[simp] theorem State.endTake_supervision (s : State) (h : Held) (o : OutcomeCode) (d : Octet) : (s.endTake h o d).supervision = s.supervision := rfl

@[simp] theorem State.keepTake_pending (s : State) (h : Held) : (s.keepTake h).pending = s.pending := rfl
@[simp] theorem State.keepTake_mem (s : State) (h : Held) : (s.keepTake h).mem = s.mem := rfl
@[simp] theorem State.keepTake_bus (s : State) (h : Held) : (s.keepTake h).bus = s.bus := rfl
@[simp] theorem State.keepTake_regs (s : State) (h : Held) : (s.keepTake h).regs = s.regs := rfl
@[simp] theorem State.keepTake_walker (s : State) (h : Held) : (s.keepTake h).walker = s.walker := rfl
@[simp] theorem State.keepTake_retire (s : State) (h : Held) : (s.keepTake h).retire = s.retire ++ [.held h.offset true] := rfl
@[simp] theorem State.keepTake_timer (s : State) (h : Held) : (s.keepTake h).timer = s.timer := rfl
@[simp] theorem State.keepTake_lines (s : State) (h : Held) : (s.keepTake h).lines = s.lines := rfl
@[simp] theorem State.keepTake_channels (s : State) (h : Held) : (s.keepTake h).channels = s.channels := rfl
@[simp] theorem State.keepTake_switch (s : State) (h : Held) : (s.keepTake h).switch = s.switch := rfl
@[simp] theorem State.keepTake_activity (s : State) (h : Held) : (s.keepTake h).activity = s.activity := rfl
@[simp] theorem State.keepTake_groups (s : State) (h : Held) : (s.keepTake h).groups = s.groups := rfl
@[simp] theorem State.keepTake_streams (s : State) (h : Held) : (s.keepTake h).streams = s.streams := rfl
@[simp] theorem State.keepTake_router (s : State) (h : Held) : (s.keepTake h).router = s.router := rfl
@[simp] theorem State.keepTake_supervision (s : State) (h : Held) : (s.keepTake h).supervision = s.supervision := rfl

@[simp] theorem State.startTake_pending (s : State) (off : Offset) : (s.startTake off).pending = s.pending := rfl
@[simp] theorem State.startTake_mem (s : State) (off : Offset) : (s.startTake off).mem = s.mem := rfl
@[simp] theorem State.startTake_bus (s : State) (off : Offset) : (s.startTake off).bus = s.bus := rfl
@[simp] theorem State.startTake_regs (s : State) (off : Offset) : (s.startTake off).regs = s.regs := rfl
@[simp] theorem State.startTake_walker (s : State) (off : Offset) : (s.startTake off).walker = { s.walker with cursor := some off, chainStarted := true, status := .idle, walk := .taking } := rfl
@[simp] theorem State.startTake_retire (s : State) (off : Offset) : (s.startTake off).retire = s.retire := rfl
@[simp] theorem State.startTake_timer (s : State) (off : Offset) : (s.startTake off).timer = s.timer := rfl
@[simp] theorem State.startTake_lines (s : State) (off : Offset) : (s.startTake off).lines = s.lines := rfl
@[simp] theorem State.startTake_channels (s : State) (off : Offset) : (s.startTake off).channels = s.channels := rfl
@[simp] theorem State.startTake_switch (s : State) (off : Offset) : (s.startTake off).switch = s.switch := rfl
@[simp] theorem State.startTake_activity (s : State) (off : Offset) : (s.startTake off).activity = s.activity := rfl
@[simp] theorem State.startTake_groups (s : State) (off : Offset) : (s.startTake off).groups = s.groups := rfl
@[simp] theorem State.startTake_streams (s : State) (off : Offset) : (s.startTake off).streams = s.streams := rfl
@[simp] theorem State.startTake_router (s : State) (off : Offset) : (s.startTake off).router = s.router := rfl
@[simp] theorem State.startTake_supervision (s : State) (off : Offset) : (s.startTake off).supervision = s.supervision := rfl

@[simp] theorem State.endWalk_pending (s : State) (st : WalkerStatus) : (s.endWalk st).pending = s.pending := rfl
@[simp] theorem State.endWalk_mem (s : State) (st : WalkerStatus) : (s.endWalk st).mem = s.mem := rfl
@[simp] theorem State.endWalk_bus (s : State) (st : WalkerStatus) : (s.endWalk st).bus = s.bus := rfl
@[simp] theorem State.endWalk_regs (s : State) (st : WalkerStatus) : (s.endWalk st).regs = s.regs := rfl
@[simp] theorem State.endWalk_walker (s : State) (st : WalkerStatus) : (s.endWalk st).walker = { s.walker with status := st, walk := .none } := rfl
@[simp] theorem State.endWalk_retire (s : State) (st : WalkerStatus) : (s.endWalk st).retire = s.retire := rfl
@[simp] theorem State.endWalk_timer (s : State) (st : WalkerStatus) : (s.endWalk st).timer = s.timer := rfl
@[simp] theorem State.endWalk_lines (s : State) (st : WalkerStatus) : (s.endWalk st).lines = s.lines := rfl
@[simp] theorem State.endWalk_channels (s : State) (st : WalkerStatus) : (s.endWalk st).channels = s.channels := rfl
@[simp] theorem State.endWalk_switch (s : State) (st : WalkerStatus) : (s.endWalk st).switch = s.switch := rfl
@[simp] theorem State.endWalk_activity (s : State) (st : WalkerStatus) : (s.endWalk st).activity = s.activity := rfl
@[simp] theorem State.endWalk_groups (s : State) (st : WalkerStatus) : (s.endWalk st).groups = s.groups := rfl
@[simp] theorem State.endWalk_streams (s : State) (st : WalkerStatus) : (s.endWalk st).streams = s.streams := rfl
@[simp] theorem State.endWalk_router (s : State) (st : WalkerStatus) : (s.endWalk st).router = s.router := rfl
@[simp] theorem State.endWalk_supervision (s : State) (st : WalkerStatus) : (s.endWalk st).supervision = s.supervision := rfl

@[simp] theorem State.refGain_pending (s : State) (n : StreamNo) : (s.refGain n).pending = s.pending := rfl
@[simp] theorem State.refGain_mem (s : State) (n : StreamNo) : (s.refGain n).mem = s.mem := rfl
@[simp] theorem State.refGain_bus (s : State) (n : StreamNo) : (s.refGain n).bus = s.bus := rfl
@[simp] theorem State.refGain_regs (s : State) (n : StreamNo) : (s.refGain n).regs = s.regs := rfl
@[simp] theorem State.refGain_walker (s : State) (n : StreamNo) : (s.refGain n).walker = s.walker := rfl
@[simp] theorem State.refGain_retire (s : State) (n : StreamNo) : (s.refGain n).retire = s.retire := rfl
@[simp] theorem State.refGain_timer (s : State) (n : StreamNo) : (s.refGain n).timer = s.timer := rfl
@[simp] theorem State.refGain_lines (s : State) (n : StreamNo) : (s.refGain n).lines = s.lines := rfl
@[simp] theorem State.refGain_channels (s : State) (n : StreamNo) : (s.refGain n).channels = s.channels := rfl
@[simp] theorem State.refGain_switch (s : State) (n : StreamNo) : (s.refGain n).switch = s.switch := rfl
@[simp] theorem State.refGain_activity (s : State) (n : StreamNo) : (s.refGain n).activity = s.activity := rfl
@[simp] theorem State.refGain_groups (s : State) (n : StreamNo) : (s.refGain n).groups = s.groups := rfl
@[simp] theorem State.refGain_streams (s : State) (n : StreamNo) : (s.refGain n).streams = updAt s.streams n fun t => { t with refs := t.refs + 1 } := rfl
@[simp] theorem State.refGain_router (s : State) (n : StreamNo) : (s.refGain n).router = s.router := rfl
@[simp] theorem State.refGain_supervision (s : State) (n : StreamNo) : (s.refGain n).supervision = s.supervision := rfl

@[simp] theorem State.refLoss_pending (s : State) (n : StreamNo) : (s.refLoss n).pending = s.pending := rfl
@[simp] theorem State.refLoss_mem (s : State) (n : StreamNo) : (s.refLoss n).mem = s.mem := rfl
@[simp] theorem State.refLoss_bus (s : State) (n : StreamNo) : (s.refLoss n).bus = s.bus := rfl
@[simp] theorem State.refLoss_regs (s : State) (n : StreamNo) : (s.refLoss n).regs = s.regs := rfl
@[simp] theorem State.refLoss_walker (s : State) (n : StreamNo) : (s.refLoss n).walker = s.walker := rfl
@[simp] theorem State.refLoss_retire (s : State) (n : StreamNo) : (s.refLoss n).retire = s.retire := rfl
@[simp] theorem State.refLoss_timer (s : State) (n : StreamNo) : (s.refLoss n).timer = s.timer := rfl
@[simp] theorem State.refLoss_lines (s : State) (n : StreamNo) : (s.refLoss n).lines = s.lines := rfl
@[simp] theorem State.refLoss_channels (s : State) (n : StreamNo) : (s.refLoss n).channels = s.channels := rfl
@[simp] theorem State.refLoss_switch (s : State) (n : StreamNo) : (s.refLoss n).switch = s.switch := rfl
@[simp] theorem State.refLoss_activity (s : State) (n : StreamNo) : (s.refLoss n).activity = s.activity := rfl
@[simp] theorem State.refLoss_groups (s : State) (n : StreamNo) : (s.refLoss n).groups = s.groups := rfl
@[simp] theorem State.refLoss_streams (s : State) (n : StreamNo) : (s.refLoss n).streams = updAt s.streams n fun t => { t with refs := t.refs - 1 } := rfl
@[simp] theorem State.refLoss_router (s : State) (n : StreamNo) : (s.refLoss n).router = s.router := rfl
@[simp] theorem State.refLoss_supervision (s : State) (n : StreamNo) : (s.refLoss n).supervision = s.supervision := rfl

@[simp] theorem State.orderOverlay_pending (s : State) : s.orderOverlay.pending = s.pending := rfl
@[simp] theorem State.orderOverlay_mem (s : State) : s.orderOverlay.mem = s.mem := rfl
@[simp] theorem State.orderOverlay_bus (s : State) : s.orderOverlay.bus = s.bus := rfl
@[simp] theorem State.orderOverlay_regs (s : State) : s.orderOverlay.regs = s.regs := rfl
@[simp] theorem State.orderOverlay_walker (s : State) : s.orderOverlay.walker = s.walker := rfl
@[simp] theorem State.orderOverlay_retire (s : State) : s.orderOverlay.retire = s.retire := rfl
@[simp] theorem State.orderOverlay_timer (s : State) : s.orderOverlay.timer = s.timer := rfl
@[simp] theorem State.orderOverlay_lines (s : State) : s.orderOverlay.lines = s.lines := rfl
@[simp] theorem State.orderOverlay_channels (s : State) : s.orderOverlay.channels = s.channels := rfl
@[simp] theorem State.orderOverlay_switch (s : State) : s.orderOverlay.switch = { s.switch with overlayOrder := true } := rfl
@[simp] theorem State.orderOverlay_activity (s : State) : s.orderOverlay.activity = s.activity := rfl
@[simp] theorem State.orderOverlay_groups (s : State) : s.orderOverlay.groups = s.groups := rfl
@[simp] theorem State.orderOverlay_streams (s : State) : s.orderOverlay.streams = s.streams := rfl
@[simp] theorem State.orderOverlay_router (s : State) : s.orderOverlay.router = s.router := rfl
@[simp] theorem State.orderOverlay_supervision (s : State) : s.orderOverlay.supervision = s.supervision := rfl

@[simp] theorem State.raiseIf_pending (s : State) (b : Bool) (c : Cause) : (s.raiseIf b c).pending = s.pending := by cases b <;> rfl
@[simp] theorem State.raiseIf_mem (s : State) (b : Bool) (c : Cause) : (s.raiseIf b c).mem = s.mem := by cases b <;> rfl
@[simp] theorem State.raiseIf_bus (s : State) (b : Bool) (c : Cause) : (s.raiseIf b c).bus = s.bus := by cases b <;> rfl
@[simp] theorem State.raiseIf_walker (s : State) (b : Bool) (c : Cause) : (s.raiseIf b c).walker = s.walker := by cases b <;> rfl
@[simp] theorem State.raiseIf_retire (s : State) (b : Bool) (c : Cause) : (s.raiseIf b c).retire = s.retire := by cases b <;> rfl
@[simp] theorem State.raiseIf_timer (s : State) (b : Bool) (c : Cause) : (s.raiseIf b c).timer = s.timer := by cases b <;> rfl
@[simp] theorem State.raiseIf_lines (s : State) (b : Bool) (c : Cause) : (s.raiseIf b c).lines = s.lines := by cases b <;> rfl
@[simp] theorem State.raiseIf_channels (s : State) (b : Bool) (c : Cause) : (s.raiseIf b c).channels = s.channels := by cases b <;> rfl
@[simp] theorem State.raiseIf_switch (s : State) (b : Bool) (c : Cause) : (s.raiseIf b c).switch = s.switch := by cases b <;> rfl
@[simp] theorem State.raiseIf_activity (s : State) (b : Bool) (c : Cause) : (s.raiseIf b c).activity = s.activity := by cases b <;> rfl
@[simp] theorem State.raiseIf_groups (s : State) (b : Bool) (c : Cause) : (s.raiseIf b c).groups = s.groups := by cases b <;> rfl
@[simp] theorem State.raiseIf_streams (s : State) (b : Bool) (c : Cause) : (s.raiseIf b c).streams = s.streams := by cases b <;> rfl
@[simp] theorem State.raiseIf_router (s : State) (b : Bool) (c : Cause) : (s.raiseIf b c).router = s.router := by cases b <;> rfl
@[simp] theorem State.raiseIf_supervision (s : State) (b : Bool) (c : Cause) : (s.raiseIf b c).supervision = s.supervision := by cases b <;> rfl
@[simp] theorem State.raiseIf_true (s : State) (c : Cause) : s.raiseIf true c = s.raise c := rfl
@[simp] theorem State.raiseIf_false (s : State) (c : Cause) : s.raiseIf false c = s := rfl

/-! ### Tables -/

@[simp] theorem updAt_same {α : Type} {n : Nat} (v : Vector α n) (i : Fin n) (f : α → α) : (updAt v i f)[i] = f v[i] := by
  simp [updAt]

theorem updAt_other {α : Type} {n : Nat} (v : Vector α n) (i j : Fin n) (f : α → α) (h : i ≠ j) : (updAt v i f)[j] = v[j] := by
  have h' : i.val ≠ j.val := fun e => h (Fin.ext e)
  simp [updAt, h']

@[simp] theorem mapAll_get {α β : Type} {n : Nat} (f : α → β) (v : Vector α n) (i : Fin n) : (mapAll f v)[i] = f v[i] := by
  simp [mapAll]

@[simp] theorem tabulate_get {α : Type} (n : Nat) (f : Fin n → α) (i : Fin n) : (tabulate n f)[i] = f i := by
  simp [tabulate]

/-- Two tables with the same entries are equal. -/
theorem vector_ext {α : Type} {n : Nat} (v w : Vector α n) (h : ∀ i : Fin n, v[i] = w[i]) : v = w := by
  apply Vector.ext
  intro i hi
  exact h ⟨i, hi⟩

end Sys2Proof.Machine
end

