-- ==== Sys2Proof/Laws/Memory.lean ====
section
/-! SUPPORT. Memory: what a read gives after a write, and that every memory operation keeps the canonical form. -/

namespace Sys2Proof.Machine

/-- A lower bound may be lowered. -/
theorem Memory.wfFrom_mono (m : Memory) {lo lo' : Nat} (h : lo' ≤ lo) (w : Memory.wfFrom lo m = true) :
    Memory.wfFrom lo' m = true := by
  cases m with
  | nil => rfl
  | cons e m =>
    simp only [Memory.wfFrom, Bool.and_eq_true, decide_eq_true_eq] at w ⊢
    exact ⟨⟨by omega, w.1.2⟩, w.2⟩

/-- Below the first address nothing is listed. -/
theorem Memory.read_below (m : Memory) {lo x : Nat} (w : Memory.wfFrom lo m = true) (h : x < lo) :
    m.read x = Config.unlistedByte := by
  cases m with
  | nil => rfl
  | cons e m =>
    simp only [Memory.wfFrom, Bool.and_eq_true, decide_eq_true_eq] at w
    simp only [Memory.read]
    rw [if_pos (by omega)]

/-- A write at or above the bound keeps the canonical form. -/
theorem Memory.wfFrom_write (m : Memory) (x : Nat) (v : Octet) {lo : Nat} (w : Memory.wfFrom lo m = true) (h : lo ≤ x) :
    Memory.wfFrom lo (m.write x v) = true := by
  induction m generalizing lo with
  | nil =>
    simp only [Memory.write]
    split
    · rfl
    · rename_i hv
      simp [Memory.wfFrom, h, hv]
  | cons e m ih =>
    obtain ⟨a, b⟩ := e
    simp only [Memory.wfFrom, Bool.and_eq_true, decide_eq_true_eq] at w
    simp only [Memory.write]
    split
    · rename_i hx
      split
      · simp only [Memory.wfFrom, Bool.and_eq_true, decide_eq_true_eq]; exact w
      · rename_i hv
        simp only [Memory.wfFrom, Bool.and_eq_true, decide_eq_true_eq]
        exact ⟨⟨h, by simp [hv]⟩, ⟨by omega, w.1.2⟩, w.2⟩
    · split
      · rename_i hx
        split
        · exact Memory.wfFrom_mono m (by omega) w.2
        · rename_i hv
          simp only [Memory.wfFrom, Bool.and_eq_true, decide_eq_true_eq]
          subst hx
          exact ⟨⟨h, by simp [hv]⟩, w.2⟩
      · simp only [Memory.wfFrom, Bool.and_eq_true, decide_eq_true_eq]
        exact ⟨w.1, ih w.2 (by omega)⟩

/-- A read after a write: the byte written at its address, every other byte as before. -/
theorem Memory.read_write (m : Memory) (x : Nat) (v : Octet) (y : Nat) {lo : Nat} (w : Memory.wfFrom lo m = true) :
    (m.write x v).read y = if y = x then v else m.read y := by
  induction m generalizing lo with
  | nil =>
    simp only [Memory.write]
    by_cases hv : v = Config.unlistedByte
    · simp [hv, Memory.read]
    · rw [if_neg hv]
      simp only [Memory.read]
      by_cases h1 : y < x
      · rw [if_pos h1, if_neg (by omega)]
      · rw [if_neg h1]
  | cons e m ih =>
    obtain ⟨a, b⟩ := e
    simp only [Memory.wfFrom, Bool.and_eq_true, decide_eq_true_eq] at w
    have below : ∀ z, z < a + 1 → Memory.read m z = Config.unlistedByte := fun z hz => Memory.read_below m w.2 hz
    simp only [Memory.write]
    by_cases h1 : x < a
    · rw [if_pos h1]
      by_cases hv : v = Config.unlistedByte
      · rw [if_pos hv]
        by_cases hy : y = x
        · subst hy; simp only [Memory.read]; rw [if_pos h1, hv]; simp
        · rw [if_neg hy]
      · rw [if_neg hv]
        simp only [Memory.read]
        by_cases h2 : y < x
        · rw [if_pos h2, if_neg (by omega), if_pos (by omega)]
        · rw [if_neg h2]
    · rw [if_neg h1]
      by_cases h2 : x = a
      · subst h2
        rw [if_pos rfl]
        by_cases hv : v = Config.unlistedByte
        · rw [if_pos hv]
          by_cases hy : y = x
          · subst hy; rw [if_pos rfl, below y (by omega), hv]
          · rw [if_neg hy]
            simp only [Memory.read]
            by_cases h3 : y < x
            · rw [if_pos h3, below y (by omega)]
            · rw [if_neg h3, if_neg hy]
        · rw [if_neg hv]
          simp only [Memory.read]
          by_cases h3 : y < x
          · rw [if_pos h3, if_neg (by omega), if_pos h3]
          · rw [if_neg h3, if_neg h3]
            by_cases h4 : y = x
            · rw [if_pos h4, if_pos h4]
            · rw [if_neg h4, if_neg h4, if_neg h4]
      · rw [if_neg h2]
        simp only [Memory.read]
        by_cases h3 : y < a
        · rw [if_pos h3, if_pos h3, if_neg (by omega)]
        · rw [if_neg h3, if_neg h3]
          by_cases h4 : y = a
          · rw [if_pos h4, if_pos h4, if_neg (by omega)]
          · rw [if_neg h4, if_neg h4]
            exact ih w.2

/-! ### The canonical form is kept -/

theorem Memory.wf_nil : Memory.wf [] = true := rfl

theorem Memory.wf_write (m : Memory) (x : Nat) (v : Octet) (w : m.wf = true) : (m.write x v).wf = true :=
  Memory.wfFrom_write m x v w (Nat.zero_le x)

theorem Memory.wf_stores (m : Memory) (l : List (BusAddress × Octet)) (w : m.wf = true) : (m.stores l).wf = true := by
  unfold Memory.stores
  induction l generalizing m with
  | nil => exact w
  | cons p l ih => exact ih _ (Memory.wf_write m _ _ w)

theorem Memory.wf_writeWord (m : Memory) (a : Nat) (v : Word) (w : m.wf = true) : (m.writeWord a v).wf = true := by
  unfold Memory.writeWord
  exact Memory.wf_write _ _ _ (Memory.wf_write _ _ _ (Memory.wf_write _ _ _ (Memory.wf_write _ _ _ w)))

/-- A read after a byte write, in the canonical form. -/
theorem Memory.wf_read_write (m : Memory) (x : Nat) (v : Octet) (y : Nat) (w : m.wf = true) :
    (m.write x v).read y = if y = x then v else m.read y := Memory.read_write m x v y w

/-- A word write leaves every byte outside its four as it was. -/
theorem Memory.read_writeWord_outside (m : Memory) (a : Nat) (v : Word) (y : Nat) (w : m.wf = true)
    (h : y < a ∨ a + 4 ≤ y) : (m.writeWord a v).read y = m.read y := by
  unfold Memory.writeWord
  have w1 := Memory.wf_write m a (wordByte v 0) w
  have w2 := Memory.wf_write _ (a + 1) (wordByte v 1) w1
  have w3 := Memory.wf_write _ (a + 2) (wordByte v 2) w2
  rw [Memory.wf_read_write _ _ _ _ w3, if_neg (by omega), Memory.wf_read_write _ _ _ _ w2, if_neg (by omega),
    Memory.wf_read_write _ _ _ _ w1, if_neg (by omega), Memory.wf_read_write _ _ _ _ w, if_neg (by omega)]

/-- The four bytes of a word, put together, are the word. -/
theorem wordOf_wordByte (v : Word) : wordOf (wordByte v 0) (wordByte v 1) (wordByte v 2) (wordByte v 3) = v := by
  apply BitVec.eq_of_getLsbD_eq
  intro i hi
  simp only [wordOf, wordByte, BitVec.getLsbD_append, BitVec.getLsbD_setWidth, BitVec.getLsbD_ushiftRight]
  have h : i < 8 ∨ (8 ≤ i ∧ i < 16) ∨ (16 ≤ i ∧ i < 24) ∨ (24 ≤ i ∧ i < 32) := by omega
  rcases h with h | h | h | h
  · simp [show i < 8 by omega]
  · simp [show ¬ i < 8 by omega, show i - 8 < 8 by omega, show 8 + (i - 8) = i by omega]
  · simp [show ¬ i < 8 by omega, show ¬ i - 8 < 8 by omega, show i - 8 - 8 < 8 by omega, show 16 + (i - 8 - 8) = i by omega]
  · simp [show ¬ i < 8 by omega, show ¬ i - 8 < 8 by omega, show ¬ i - 8 - 8 < 8 by omega,
      show 24 + (i - 8 - 8 - 8) = i by omega]
    intro; omega

/-- Byte 0 of a word of four bytes. -/
@[simp] theorem wordByte_wordOf_zero (a b c d : Octet) : wordByte (wordOf a b c d) 0 = a := by
  apply BitVec.eq_of_getLsbD_eq
  intro i hi
  simp only [wordOf, wordByte, BitVec.getLsbD_append, BitVec.getLsbD_setWidth, BitVec.getLsbD_ushiftRight]
  simp [hi, show 0 + i = i by omega]

/-- Byte 1 of a word of four bytes. -/
@[simp] theorem wordByte_wordOf_one (a b c d : Octet) : wordByte (wordOf a b c d) 1 = b := by
  apply BitVec.eq_of_getLsbD_eq
  intro i hi
  simp only [wordOf, wordByte, BitVec.getLsbD_append, BitVec.getLsbD_setWidth, BitVec.getLsbD_ushiftRight]
  simp [hi, show ¬ 8 + i < 8 by omega, show 8 + i - 8 = i by omega]

/-- Byte 2 of a word of four bytes. -/
@[simp] theorem wordByte_wordOf_two (a b c d : Octet) : wordByte (wordOf a b c d) 2 = c := by
  apply BitVec.eq_of_getLsbD_eq
  intro i hi
  simp only [wordOf, wordByte, BitVec.getLsbD_append, BitVec.getLsbD_setWidth, BitVec.getLsbD_ushiftRight]
  simp [hi, show ¬ 16 + i < 8 by omega, show ¬ 16 + i - 8 < 8 by omega, show 16 + i - 8 - 8 = i by omega]

/-- Byte 3 of a word of four bytes. -/
@[simp] theorem wordByte_wordOf_three (a b c d : Octet) : wordByte (wordOf a b c d) 3 = d := by
  apply BitVec.eq_of_getLsbD_eq
  intro i hi
  simp only [wordOf, wordByte, BitVec.getLsbD_append, BitVec.getLsbD_setWidth, BitVec.getLsbD_ushiftRight]
  simp [hi, show ¬ 24 + i < 8 by omega, show ¬ 24 + i - 8 < 8 by omega, show ¬ 24 + i - 8 - 8 < 8 by omega, show 24 + i - 8 - 8 - 8 = i by omega]

/-- A number and its low byte name the same octet. -/
theorem octet_mod (n : Nat) : octet (n % 256) = BitVec.ofNat 8 n := by
  apply BitVec.eq_of_toNat_eq
  simp [octet]

/-- A word written reads back. -/
theorem Memory.readWord_writeWord (m : Memory) (a : Nat) (v : Word) (w : m.wf = true) : (m.writeWord a v).readWord a = v := by
  have w1 := Memory.wf_write m a (wordByte v 0) w
  have w2 := Memory.wf_write _ (a + 1) (wordByte v 1) w1
  have w3 := Memory.wf_write _ (a + 2) (wordByte v 2) w2
  unfold Memory.readWord Memory.writeWord
  simp only [Memory.wf_read_write _ _ _ _ w3, Memory.wf_read_write _ _ _ _ w2, Memory.wf_read_write _ _ _ _ w1,
    Memory.wf_read_write _ _ _ _ w]
  simp
  exact wordOf_wordByte v

end Sys2Proof.Machine
end

