-- ==== Sys2Proof/Laws/Ops.lean ====
section
/-! SUPPORT. What the operations of the memory port can do: on a quiet bus, and on any bus. -/

namespace Sys2Proof.Machine

/-! ### A quiet bus -/

@[simp] theorem State.busCycle_quiet (s : State) (h : s.bus = {}) : s.busCycle = (true, s) := by
  unfold State.busCycle
  rw [h]
  rfl

@[simp] theorem State.readWord_quiet (s : State) (off : Offset) (h : s.bus = {}) :
    s.readWord off = (some (s.mem.readWord (s.busAddress off)), s) := by
  simp [State.readWord, h]

@[simp] theorem State.writeWord_quiet (s : State) (off : Offset) (w : Word) (h : s.bus = {}) :
    s.writeWord off w = (true, { s with mem := s.mem.writeWord (s.busAddress off) w }) := by
  simp [State.writeWord, h]

@[simp] theorem State.writeByte_quiet (s : State) (off : Offset) (b : Octet) (h : s.bus = {}) :
    s.writeByte off b = (true, { s with mem := s.mem.write (s.busAddress off) b }) := by
  simp [State.writeByte, h]

@[simp] theorem State.exchange_quiet (s : State) (off : Offset) (f : Word → Word) (h : s.bus = {}) :
    s.exchange off f = (some (s.mem.readWord (s.busAddress off)),
      { s with mem := s.mem.writeWord (s.busAddress off) (f (s.mem.readWord (s.busAddress off))) }) := by
  simp [State.exchange, h]

/-! ### Any bus: only memory and the bus cycles change, and memory keeps its canonical form -/

/-- Nothing but memory and the bus cycles differs, and the canonical form of memory is kept. -/
structure State.OnlyMemory (s t : State) : Prop where
  rest : t = { s with mem := t.mem, bus := t.bus }
  wf : s.mem.wf = true → t.mem.wf = true

theorem State.OnlyMemory.refl (s : State) : s.OnlyMemory s := ⟨rfl, id⟩

theorem State.OnlyMemory.trans {s t u : State} (h : s.OnlyMemory t) (k : t.OnlyMemory u) : s.OnlyMemory u := by
  constructor
  · rw [k.rest, h.rest]
  · exact fun w => k.wf (h.wf w)

theorem State.busCycle_only (s : State) : s.OnlyMemory s.busCycle.2 := by
  unfold State.busCycle
  split
  · exact .refl s
  · exact ⟨rfl, fun w => Memory.wf_stores _ _ w⟩

theorem State.readWord_only (s : State) (off : Offset) : s.OnlyMemory (s.readWord off).2 := s.busCycle_only

theorem State.writeWord_only (s : State) (off : Offset) (w : Word) : s.OnlyMemory (s.writeWord off w).2 := by
  refine s.busCycle_only.trans ?_
  unfold State.writeWord
  dsimp only
  split
  · exact ⟨rfl, fun h => Memory.wf_writeWord _ _ _ h⟩
  · exact .refl _

theorem State.writeByte_only (s : State) (off : Offset) (b : Octet) : s.OnlyMemory (s.writeByte off b).2 := by
  refine s.busCycle_only.trans ?_
  unfold State.writeByte
  dsimp only
  split
  · exact ⟨rfl, fun h => Memory.wf_write _ _ _ h⟩
  · exact .refl _

theorem State.exchange_only (s : State) (off : Offset) (f : Word → Word) : s.OnlyMemory (s.exchange off f).2 := by
  refine s.busCycle_only.trans ?_
  unfold State.exchange
  dsimp only
  split
  · exact ⟨rfl, fun h => Memory.wf_writeWord _ _ _ h⟩
  · exact .refl _

theorem State.write_only (s : State) (w : Write) : s.OnlyMemory (s.write w).2 := by
  cases w with
  | word off v => exact s.writeWord_only off v
  | byte off b => exact s.writeByte_only off b

theorem State.writes_only (s : State) (l : List Write) : s.OnlyMemory (s.writes l).2 := by
  induction l generalizing s with
  | nil => exact .refl s
  | cons w l ih =>
    unfold State.writes
    dsimp only
    split
    · exact (s.write_only w).trans (ih _)
    · exact s.write_only w

theorem State.readWords_only (s : State) (k : Nat) (off : Offset) : s.OnlyMemory (s.readWords k off).2 := by
  induction k generalizing s off with
  | zero => exact .refl s
  | succ k ih =>
    have h1 := s.readWord_only off
    unfold State.readWords
    split
    · rename_i t e; rw [e] at h1; exact h1
    · rename_i w t e
      rw [e] at h1
      have h2 := ih t (off + 4)
      split
      · rename_i u e2; rw [e2] at h2; exact h1.trans h2
      · rename_i ws u e2; rw [e2] at h2; exact h1.trans h2

/-! ### A sequence of writes on a quiet bus -/

theorem State.writes_quiet (s : State) (l : List Write) (h : s.bus = {}) :
    s.writes l = (l.length, { s with mem := l.foldl (stored s) s.mem }) := by
  induction l generalizing s with
  | nil => rfl
  | cons w l ih =>
    have key : s.write w = (true, { s with mem := stored s s.mem w }) := by
      cases w with
      | word off v => exact s.writeWord_quiet off v h
      | byte off b => exact s.writeByte_quiet off b h
    unfold State.writes
    rw [key]
    dsimp only
    rw [if_pos rfl, ih { s with mem := stored s s.mem w } h]
    rfl

/-! ### The wrappers of the commands -/

theorem whileReleased_next (s : State) (f : State → State) (h : s.regs.poreset = false) :
    whileReleased s f = .next (f s) := by
  simp [whileReleased, h]

theorem whileReleased_held (s : State) (f : State → State) (h : s.regs.poreset = true) : whileReleased s f = .next s := by
  simp [whileReleased, h]

theorem whileReleasedBus_next (s : State) (c : List BusCycle) (f : State → State) (h : s.regs.poreset = false) :
    whileReleasedBus s c f = .next (s.withBus c f) := whileReleased_next s _ h

theorem whileReleasedBus_held (s : State) (c : List BusCycle) (f : State → State) (h : s.regs.poreset = true) :
    whileReleasedBus s c f = .next s := whileReleased_held s _ h

/-! ### Taking the record found -/

/-- A take of a record that its command takes and whose owner has room. -/
theorem State.takeWith_found (s : State) (mine : WorkRecord → Bool) (owner : State → WorkRecord → State) (r : WorkRecord)
    (hw : s.walker.walk = .found r) (hm : mine r = true) (hr : s.ownerFull r = false) :
    s.takeWith mine owner = owner (s.startTake r.held.offset) r := by
  simp [State.takeWith, hw, hm, hr]

/-- A take whose owner is full leaves the walker BLOCKED. -/
theorem State.takeWith_full (s : State) (mine : WorkRecord → Bool) (owner : State → WorkRecord → State) (r : WorkRecord)
    (hw : s.walker.walk = .found r) (hm : mine r = true) (hr : s.ownerFull r = true) :
    s.takeWith mine owner = s.endWalk .blocked := by
  simp [State.takeWith, hw, hm, hr]

/-- A take of nothing changes nothing. -/
theorem State.takeWith_none (s : State) (mine : WorkRecord → Bool) (owner : State → WorkRecord → State)
    (h : ∀ r, s.walker.walk = .found r → mine r = false) : s.takeWith mine owner = s := by
  unfold State.takeWith
  split
  · rename_i r e; simp [h r e]
  · rfl
  · rfl

end Sys2Proof.Machine
end

