-- ==== Sys2Proof/Laws/Router.lean ====
section
/-! SUPPORT. What routing, a channel's report and the flush can do; sequences of accesses that meet a bus error. -/

namespace Sys2Proof.Machine

/-! ### Only requests, channels and router -/

/-- Nothing but the retire path's queue, the channels and the router differs. -/
def State.OnlyRouting (s t : State) : Prop :=
  t = { s with retire := t.retire, channels := t.channels, router := t.router }

theorem State.OnlyRouting.refl (s : State) : s.OnlyRouting s := rfl

theorem State.OnlyRouting.trans {s t u : State} (h : s.OnlyRouting t) (k : t.OnlyRouting u) : s.OnlyRouting u := by
  unfold State.OnlyRouting at *
  rw [k, h]

theorem State.deliver_only (s t : State) (m : Message) (d : Octet) (h : s.deliver m d = some t) : s.OnlyRouting t := by
  unfold State.deliver at h
  split at h
  · cases h
  · cases h; rfl

theorem State.matchReply_only (s : State) (m : Message) : s.OnlyRouting (s.matchReply m) := by
  unfold State.matchReply
  split <;> rfl

theorem State.routeMade_only (s : State) (m : Message) : s.OnlyRouting (s.routeMade m) := by
  unfold State.routeMade
  split
  · split
    · cases h : s.deliver m 0xFF with
      | none => exact .refl s
      | some t => exact s.deliver_only t m _ h
    · cases h : s.deliver m 0xFF with
      | none => exact .refl s
      | some t => exact s.deliver_only t m _ h
    · exact s.matchReply_only m
    all_goals exact .refl s
  · split <;> rfl
  all_goals exact .refl s

theorem State.dropMessage_only (s : State) (m : Message) (o : OutcomeCode) : s.OnlyRouting (s.dropMessage m o) := by
  unfold State.dropMessage
  split
  · exact s.routeMade_only _
  · exact .refl s

theorem State.routeInbound_only (s : State) (p : Port) (m : Message) : s.OnlyRouting (s.routeInbound p m).2 := by
  unfold State.routeInbound
  split
  · split
    · cases h : s.deliver m (octet p.val) with
      | none => exact .refl s
      | some t => exact s.deliver_only t m _ h
    · cases h : s.deliver m (octet p.val) with
      | none => exact .refl s
      | some t => exact s.deliver_only t m _ h
    · exact s.routeMade_only _
    · exact s.matchReply_only m
    · exact .refl s
  · exact s.dropMessage_only m _
  · exact s.dropMessage_only m _
  · split
    · exact s.dropMessage_only m _
    · split <;> rfl

theorem State.handToRouter_only (s : State) (p : Port) (m : Message) : s.OnlyRouting (s.handToRouter p m) := by
  have h := s.routeInbound_only p m
  unfold State.handToRouter
  split
  · rename_i t e; rw [e] at h; exact h.trans rfl
  · rename_i on t e; rw [e] at h; exact h.trans rfl

theorem State.report_only (s : State) (q : Queued) (o : OutcomeCode) (n : Nat) : s.OnlyRouting (s.report q o n) := by
  unfold State.report
  split
  · rfl
  · split
    · exact .refl s
    · exact s.dropMessage_only _ _
  · exact .refl s

theorem State.reports_only (l : List (Queued × Nat)) (s : State) :
    s.OnlyRouting (l.foldl (fun x d => x.report d.1 .linkDown d.2) s) := by
  induction l generalizing s with
  | nil => exact .refl s
  | cons d l ih => exact (s.report_only d.1 _ _).trans (ih _)

/-! ### The flush -/

/-- What a flush reports, in its order: the message in transmission, then the queue. -/
def Channel.dropped (c : Channel) : List (Queued × Nat) :=
  (c.inFlight.toList.map fun f => (f.item, f.index)) ++ c.queue.map fun q => (q, 0)

theorem State.flush_eq (s : State) (p : Port) :
    let c := s.channels[p]
    let u : State := { s with channels := s.channels.set p { c with inFlight := none, queue := [] } }
    let v := c.dropped.foldl (fun x d => x.report d.1 .linkDown d.2) u
    s.flush p = { v with
      channels := v.channels.set p { senderDue := c.senderDue, receiverDue := c.receiverDue }
      router := { v.router with waits := v.router.waits.set p none, retryDue := v.router.retryDue.set p false } } := by
  intro c u v
  have h : v = c.queue.foldl (fun s q => s.report q .linkDown 0)
      (match c.inFlight with
        | some f => u.report f.item .linkDown f.index
        | none => u) := by
    simp only [v, Channel.dropped, List.foldl_append, List.foldl_map]
    cases c.inFlight <;> rfl
  rw [h]
  rfl

theorem State.flush_only (s : State) (p : Port) : s.OnlyRouting (s.flush p) := by
  rw [State.flush_eq]
  have h := State.reports_only s.channels[p].dropped
    { s with channels := s.channels.set p { s.channels[p] with inFlight := none, queue := [] } }
  unfold State.OnlyRouting at *
  rw [h]

theorem State.flushIf_only (s : State) (b : Bool) (p : Port) : s.OnlyRouting (s.flushIf b p) := by
  unfold State.flushIf
  split
  · exact s.flush_only p
  · exact .refl s

/-! ### What routing reads -/

/-- Two states that routing cannot tell apart: the same line states, channels, requests and router. -/
structure State.RoutesAlike (s t : State) : Prop where
  line : ∀ p : Port, t.lines[p].line = s.lines[p].line
  channels : t.channels = s.channels
  router : t.router = s.router
  retire : t.retire = s.retire

theorem State.RoutesAlike.route {s t : State} (h : s.RoutesAlike t) (dest : Octet) : t.route dest = s.route dest := by
  unfold State.route
  simp only [h.router, h.line]

theorem State.RoutesAlike.queueRoom {s t : State} (h : s.RoutesAlike t) (p : Port) : t.queueRoom p = s.queueRoom p := by
  unfold State.queueRoom State.queueFree
  rw [h.line p, h.channels]

theorem State.RoutesAlike.enqueue {s t : State} (h : s.RoutesAlike t) (p : Port) (q : Queued) :
    (s.enqueue p q).RoutesAlike (t.enqueue p q) :=
  ⟨h.line, by simp only [State.enqueue, State.onChannel, h.channels], h.router, h.retire⟩

theorem State.RoutesAlike.matchReply {s t : State} (h : s.RoutesAlike t) (m : Message) :
    (s.matchReply m).RoutesAlike (t.matchReply m) := by
  unfold State.matchReply
  rw [h.router]
  split
  · exact h
  · exact ⟨h.line, h.channels, by simp only [State.requestRetire, State.addRequest, State.onRouter, h.router],
      by simp only [State.requestRetire, State.addRequest, State.onRouter, h.retire]⟩

theorem State.RoutesAlike.delivered {s t : State} (h : s.RoutesAlike t) (m : Message) (d : Octet) :
    ((s.deliver m d).getD s).RoutesAlike ((t.deliver m d).getD t) := by
  unfold State.deliver
  rw [h.router]
  split
  · exact h
  · exact ⟨h.line, h.channels, by simp only [State.requestRetire, State.addRequest, State.onRouter, h.router, Option.getD_some],
      by simp only [State.requestRetire, State.addRequest, State.onRouter, h.retire, Option.getD_some]⟩

theorem State.RoutesAlike.routeMade {s t : State} (h : s.RoutesAlike t) (m : Message) :
    (s.routeMade m).RoutesAlike (t.routeMade m) := by
  unfold State.routeMade
  rw [h.route]
  split
  · split
    · exact h.delivered m _
    · exact h.delivered m _
    · exact h.matchReply m
    all_goals exact h
  · rw [h.queueRoom]
    split
    · exact h.enqueue _ _
    · exact h
  all_goals exact h

theorem State.RoutesAlike.report {s t : State} (h : s.RoutesAlike t) (q : Queued) (o : OutcomeCode) (n : Nat) :
    (s.report q o n).RoutesAlike (t.report q o n) := by
  unfold State.report
  split
  · exact ⟨h.line, h.channels, h.router, by simp only [State.requestRetire, State.addRequest, h.retire]⟩
  · split
    · exact h
    · unfold State.dropMessage State.returnedFor
      split
      · rw [h.router]; exact h.routeMade _
      · exact h
  · exact h

theorem State.RoutesAlike.reports {s t : State} (h : s.RoutesAlike t) (l : List (Queued × Nat)) :
    (l.foldl (fun x d => x.report d.1 .linkDown d.2) s).RoutesAlike (l.foldl (fun x d => x.report d.1 .linkDown d.2) t) := by
  induction l generalizing s t with
  | nil => exact h
  | cons d l ih => exact ih (h.report d.1 _ _)

/-- A flush does to two states that routing cannot tell apart the same to requests, channels and router. -/
theorem State.RoutesAlike.flush {s t : State} (h : s.RoutesAlike t) (p : Port) : (s.flush p).RoutesAlike (t.flush p) := by
  have hs := s.flush_only p
  have ht := t.flush_only p
  have hu : ({ s with channels := s.channels.set p { s.channels[p] with inFlight := none, queue := [] } } : State).RoutesAlike
      { t with channels := t.channels.set p { t.channels[p] with inFlight := none, queue := [] } } :=
    ⟨h.line, by simp only [h.channels], h.router, h.retire⟩
  have hv := hu.reports s.channels[p].dropped
  refine ⟨?_, ?_, ?_, ?_⟩
  · intro q; rw [hs, ht]; exact h.line q
  · rw [State.flush_eq, State.flush_eq]; simp only [h.channels] at hv ⊢; rw [hv.channels]
  · rw [State.flush_eq, State.flush_eq]; simp only [h.channels] at hv ⊢; rw [hv.router]
  · rw [State.flush_eq, State.flush_eq]; simp only [h.channels] at hv ⊢; rw [hv.retire]

theorem State.RoutesAlike.flushIf {s t : State} (h : s.RoutesAlike t) (b : Bool) (p : Port) :
    (s.flushIf b p).RoutesAlike (t.flushIf b p) := by
  unfold State.flushIf
  split
  · exact h.flush p
  · exact h

/-! ### Writes that meet a bus error -/

theorem State.write_cycles (s : State) (w : Write) (cs : List BusCycle) (h : s.bus.cycles = {} :: cs) :
    s.write w = (true, { s with mem := stored s s.mem w, bus := { s.bus with cycles := cs } }) := by
  cases w <;> simp [State.write, State.writeWord, State.writeByte, State.busCycle, h, stored, Memory.stores, State.busAddress]

theorem State.write_error (s : State) (w : Write) (cs : List BusCycle) (h : s.bus.cycles = { error := true } :: cs) :
    s.write w = (false, { s with bus := { s.bus with cycles := cs } }) := by
  cases w <;> simp [State.write, State.writeWord, State.writeByte, State.busCycle, h, Memory.stores]

/-- A bus error at write `k` leaves the writes before it as made, and ends the sequence there. -/
theorem State.writes_error (l : List Write) (k : Nat) (s : State) (hk : k < l.length) (cs : List BusCycle)
    (h : s.bus.cycles = errorAfter k ++ cs) :
    s.writes l = (k, { s with mem := (l.take k).foldl (stored s) s.mem, bus := { s.bus with cycles := cs } }) := by
  induction l generalizing k s with
  | nil => cases hk
  | cons w l ih =>
    unfold State.writes
    cases k with
    | zero => rw [State.write_error s w cs (by simpa [errorAfter] using h)]; rfl
    | succ k =>
      rw [State.write_cycles s w (errorAfter k ++ cs) (by simpa [errorAfter, List.replicate_succ] using h)]
      dsimp only
      rw [if_pos rfl, ih k _ (by simpa using hk) rfl]
      rfl

/-- Good bus cycles before a sequence of writes that is no longer than they are. -/
theorem State.writes_cycles (l : List Write) (s : State) (cs : List BusCycle)
    (h : s.bus.cycles = List.replicate l.length ({} : BusCycle) ++ cs) :
    s.writes l = (l.length, { s with mem := l.foldl (stored s) s.mem, bus := { s.bus with cycles := cs } }) := by
  induction l generalizing s with
  | nil => simp only [State.writes, List.length_nil, List.foldl_nil]; rw [← show s.bus.cycles = cs by simpa using h]
  | cons w l ih =>
    unfold State.writes
    rw [State.write_cycles s w (List.replicate l.length ({} : BusCycle) ++ cs) (by simpa [List.replicate_succ] using h)]
    dsimp only
    rw [if_pos rfl, ih _ rfl]
    rfl

/-! ### Reads that meet a bus error -/

theorem State.readWord_cycles (s : State) (off : Offset) (cs : List BusCycle) (h : s.bus.cycles = {} :: cs) :
    s.readWord off = (some (s.mem.readWord (s.busAddress off)), { s with bus := { s.bus with cycles := cs } }) := by
  simp [State.readWord, State.busCycle, h, Memory.stores, State.busAddress]

theorem State.readWord_error (s : State) (off : Offset) (cs : List BusCycle) (h : s.bus.cycles = { error := true } :: cs) :
    s.readWord off = (none, { s with bus := { s.bus with cycles := cs } }) := by
  simp [State.readWord, State.busCycle, h, Memory.stores]

/-- A bus error at read `k` ends the sequence there, without its words. -/
theorem State.readWords_error (n k : Nat) (s : State) (off : Offset) (hk : k < n) (cs : List BusCycle)
    (h : s.bus.cycles = errorAfter k ++ cs) :
    s.readWords n off = (none, { s with bus := { s.bus with cycles := cs } }) := by
  induction n generalizing k s off with
  | zero => cases hk
  | succ n ih =>
    unfold State.readWords
    cases k with
    | zero => rw [State.readWord_error s off cs (by simpa [errorAfter] using h)]
    | succ k =>
      rw [State.readWord_cycles s off (errorAfter k ++ cs) (by simpa [errorAfter, List.replicate_succ] using h)]
      dsimp only
      rw [ih k _ (off + 4) (by omega) rfl]

end Sys2Proof.Machine
end

