-- ==== Sys2Proof/Laws/Lines.lean ====
section
/-! SUPPORT. What a move of a line state with its flush does, and what a port that leaves LINKED takes back. -/

namespace Sys2Proof.Machine

/-- A move, and the flush after it, in any order with the attention that the move raises. -/
theorem State.moveLine_flushIf (s : State) (p : Port) (f : LineUnit → LineUnit) (b : Bool) :
    (s.moveLine p f).flushIf b p =
      withCause (({ s with lines := s.lines.set p (f s.lines[p]) } : State).flushIf b p) .port := by
  have alike : ({ s with lines := s.lines.set p (f s.lines[p]) } : State).RoutesAlike (s.moveLine p f) :=
    ⟨fun _ => rfl, rfl, rfl, rfl⟩
  have h := alike.flushIf b p
  rw [State.flushIf_only (s.moveLine p f) b p, State.flushIf_only ({ s with lines := s.lines.set p (f s.lines[p]) } : State) b p,
    h.channels, h.router, h.retire]
  rfl

/-- A flush does not read what the frame being sent is formed from. -/
theorem State.flushIf_latchLine (s : State) (p : Port) (b : Bool) :
    (s.flushIf b p).latchLine p = (s.latchLine p).flushIf b p := by
  have alike : s.RoutesAlike (s.latchLine p) := by
    refine ⟨fun q => ?_, rfl, rfl, rfl⟩
    by_cases h : q = p
    · subst h; simp [State.latchLine, State.onLine, updAt]
    · simp only [State.latchLine, State.onLine, updAt, Fin.getElem_fin]
      rw [Vector.getElem_set_ne]
      exact fun e => h (Fin.ext e.symm)
  have h := alike.flushIf b p
  rw [State.flushIf_only (s.latchLine p) b p, h.channels, h.router, h.retire, State.flushIf_only s b p]
  rfl

/-! ### A port that leaves LINKED at a take (log 15) -/

theorem State.unsee_only (s : State) (p : Port) :
    s.unsee p = { s with lines := (s.unsee p).lines, activity := (s.unsee p).activity, switch := (s.unsee p).switch,
                         streams := (s.unsee p).streams } := by
  unfold State.unsee
  split <;> rfl

theorem State.unsee_other (s : State) (p q : Port) (h : q ≠ p) : (s.unsee p).lines[q] = s.lines[q] := by
  unfold State.unsee
  split
  · simp only [State.onLine, updAt, State.onActivity, State.onSwitch, Fin.getElem_fin]
    rw [Vector.getElem_set_ne]
    exact fun e => h (Fin.ext e.symm)
  · rfl

theorem State.unsee_self (s : State) (p : Port) :
    (s.unsee p).lines[p] =
      { s.lines[p] with seen := s.lines[p].seen && (s.lines[p].line != .linked || s.timer.passed) } := by
  unfold State.unsee
  split
  · rename_i h
    have h1 : s.lines[p.val].line = .linked := h.1
    simp [State.onLine, updAt, State.onActivity, State.onSwitch, h1, h.2.2]
  · rename_i h
    have key : ∀ (l : LineUnit) (passed : Bool), ¬ (l.line = .linked ∧ l.seen = true ∧ passed = false) →
        l = { l with seen := l.seen && (l.line != .linked || passed) } := by
      intro l passed hl
      rcases l with ⟨line, _, _, _, _, _, _, _, _, _, _, _, seen⟩
      rcases seen <;> rcases line <;> rcases passed <;> simp_all
    exact key _ _ h

theorem State.unsee_line (s : State) (p q : Port) : (s.unsee p).lines[q].line = s.lines[q].line := by
  by_cases h : q = p
  · subst h; rw [State.unsee_self]
  · rw [State.unsee_other _ _ _ h]

end Sys2Proof.Machine
end

