-- ==== Sys2Proof/WellFormed.lean ====
section
/-! DEFINITION. Which terms of Instr name a command of the table: the checks on operands that their types do not make. -/

namespace Sys2Proof

/-- No boundary work is named twice. -/
def BoundaryWork.distinct : List BoundaryWork → Bool
  | [] => true
  | w :: ws => !ws.contains w && BoundaryWork.distinct ws

/-- No piece of work is cut twice by a reset. -/
def Cut.distinct : List Cut → Bool
  | [] => true
  | c :: cs => !(cs.any fun d => d.work == c.work) && Cut.distinct cs

/-- A register write that the window ignores: not all four byte lanes, or IDENT, STATE, or an offset from 0x18 on (10 R177). -/
def isIgnoredWrite (offset : BitVec 5) (lanes : BitVec 4) : Bool :=
  lanes != 0xF || offset.extractLsb' 2 3 == (0 : BitVec 3) || offset.extractLsb' 2 3 == (2 : BitVec 3) ||
    offset.extractLsb' 2 3 == (6 : BitVec 3) || offset.extractLsb' 2 3 == (7 : BitVec 3)

/-- The operands fit the command that the constructor names. -/
def Instr.wellFormed : Instr → Bool
  | .frameBoundary _ works _ => BoundaryWork.distinct works
  | .softReset value cuts => Machine.isResetCode value && Cut.distinct cuts
  | .powerOnReset cuts => Cut.distinct cuts
  | .run value _ => !Machine.isResetCode value && !value.getLsbD 1
  | .resume value _ => !Machine.isResetCode value && value.getLsbD 1
  | .registerWriteIgnored offset _ lanes => isIgnoredWrite offset lanes
  | .activityImageWrite words _ => decide (1 ≤ words ∧ words ≤ 4)
  | .blockBoundary _ _ | .scanStep | .areaBase _ | .attention _ | .attentionEnable _
  | .heldWrite _ | .retirement _ | .nop | .portSetup | .setNode | .editMap | .dropTag | .queryMap _
  | .setActivity | .setScan | .scanControlHold | .scanControlRelease | .scanControlStep | .scanControlSelect
  | .openStream _ | .closeStream _ | .send | .listen | .probe | .recallPool | .supervise | .pulse | .setFallback
  | .enter | .recover | .receiveFrame _ _ _ | .aligned _ | .misaligned _ | .wakeCountReady _ | .quietCountLoss _
  | .identifyTimeout _ | .lostTimerExpiry _ | .identify _ | .portStatusWrite _ _ | .handover _ _ | .takeTimeout _
  | .quitTimerExpiry _ | .stallTimerExpiry _ | .haltTimerExpiry _ | .holdingWaitExpiry _ | .noReply | .phaseSecond
  | .periodEnd | .resetOutRelease | .supervisionWordWrite _ | .streamAccessCompletion _ _ | .candidateMark _ _
  | .poresetRelease => true

end Sys2Proof
end

