-- ==== Sys2Proof/Laws/PerInstr.lean ====
section
/-! SUPPORT. One statement per command: no word spells it, since no row of the table gives bits. -/

namespace Sys2Proof.Laws

/-- No word, of whatever length, spells the command. -/
def NoWord.Statement (i : Instr) : Prop := ∀ nbits w, decodeTableWord nbits w ≠ some i

theorem noWord (i : Instr) : NoWord.Statement i := by
  intro nbits w h
  exact nomatch h

namespace NoWord

theorem frameBoundary (edge : Bool) (works : List BoundaryWork) (bus : List BusCycle) : Statement (.frameBoundary edge works bus) := noWord _
theorem blockBoundary (late : List StreamNo) (bus : List BusCycle) : Statement (.blockBoundary late bus) := noWord _
theorem scanStep : Statement .scanStep := noWord _
theorem powerOnReset (cuts : List Cut) : Statement (.powerOnReset cuts) := noWord _
theorem softReset (value : Word) (cuts : List Cut) : Statement (.softReset value cuts) := noWord _
theorem run (value : Word) (bus : List BusCycle) : Statement (.run value bus) := noWord _
theorem resume (value : Word) (bus : List BusCycle) : Statement (.resume value bus) := noWord _
theorem areaBase (value : Word) : Statement (.areaBase value) := noWord _
theorem attention (value : Word) : Statement (.attention value) := noWord _
theorem attentionEnable (value : Word) : Statement (.attentionEnable value) := noWord _
theorem registerWriteIgnored (offset : BitVec 5) (value : Word) (lanes : BitVec 4) : Statement (.registerWriteIgnored offset value lanes) := noWord _
theorem heldWrite (bus : List BusCycle) : Statement (.heldWrite bus) := noWord _
theorem retirement (bus : List BusCycle) : Statement (.retirement bus) := noWord _
theorem nop : Statement .nop := noWord _
theorem portSetup : Statement .portSetup := noWord _
theorem setNode : Statement .setNode := noWord _
theorem editMap : Statement .editMap := noWord _
theorem dropTag : Statement .dropTag := noWord _
theorem queryMap (bus : List BusCycle) : Statement (.queryMap bus) := noWord _
theorem setActivity : Statement .setActivity := noWord _
theorem setScan : Statement .setScan := noWord _
theorem scanControlHold : Statement .scanControlHold := noWord _
theorem scanControlRelease : Statement .scanControlRelease := noWord _
theorem scanControlStep : Statement .scanControlStep := noWord _
theorem scanControlSelect : Statement .scanControlSelect := noWord _
theorem openStream (bus : List BusCycle) : Statement (.openStream bus) := noWord _
theorem closeStream (bus : List BusCycle) : Statement (.closeStream bus) := noWord _
theorem send : Statement .send := noWord _
theorem listen : Statement .listen := noWord _
theorem probe : Statement .probe := noWord _
theorem recallPool : Statement .recallPool := noWord _
theorem supervise : Statement .supervise := noWord _
theorem pulse : Statement .pulse := noWord _
theorem setFallback : Statement .setFallback := noWord _
theorem enter : Statement .enter := noWord _
theorem recover : Statement .recover := noWord _
theorem receiveFrame (p : Port) (mark : Bool) (octets : Frame) : Statement (.receiveFrame p mark octets) := noWord _
theorem aligned (p : Port) : Statement (.aligned p) := noWord _
theorem misaligned (p : Port) : Statement (.misaligned p) := noWord _
theorem wakeCountReady (p : Port) : Statement (.wakeCountReady p) := noWord _
theorem quietCountLoss (p : Port) : Statement (.quietCountLoss p) := noWord _
theorem identifyTimeout (p : Port) : Statement (.identifyTimeout p) := noWord _
theorem lostTimerExpiry (p : Port) : Statement (.lostTimerExpiry p) := noWord _
theorem identify (p : Port) : Statement (.identify p) := noWord _
theorem portStatusWrite (p : Port) (bus : List BusCycle) : Statement (.portStatusWrite p bus) := noWord _
theorem activityImageWrite (words : Nat) (bus : List BusCycle) : Statement (.activityImageWrite words bus) := noWord _
theorem handover (n : StreamNo) (bus : List BusCycle) : Statement (.handover n bus) := noWord _
theorem takeTimeout (p : Port) : Statement (.takeTimeout p) := noWord _
theorem quitTimerExpiry (p : Port) : Statement (.quitTimerExpiry p) := noWord _
theorem stallTimerExpiry (p : Port) : Statement (.stallTimerExpiry p) := noWord _
theorem haltTimerExpiry (p : Port) : Statement (.haltTimerExpiry p) := noWord _
theorem holdingWaitExpiry (p : Port) : Statement (.holdingWaitExpiry p) := noWord _
theorem noReply : Statement .noReply := noWord _
theorem phaseSecond : Statement .phaseSecond := noWord _
theorem periodEnd : Statement .periodEnd := noWord _
theorem resetOutRelease : Statement .resetOutRelease := noWord _
theorem supervisionWordWrite (bus : List BusCycle) : Statement (.supervisionWordWrite bus) := noWord _
theorem streamAccessCompletion (n : StreamNo) (bus : List BusCycle) : Statement (.streamAccessCompletion n bus) := noWord _
theorem candidateMark (p : Port) (position : Fin 256) : Statement (.candidateMark p position) := noWord _
theorem poresetRelease : Statement .poresetRelease := noWord _

end NoWord

end Sys2Proof.Laws
end

