-- ==== Sys2Proof/Laws/Scan.lean ====
section
/-! SUPPORT. The search of a scan group, a reading ahead of the scan step, and what the check of an edit depends on. -/

namespace Sys2Proof.Machine

/-! ### The search (05 R92) -/

/-- The first index of an order that is eligible becomes current. -/
theorem ScanGroup.searchIn_first (a : Activity) (g : ScanGroup) (before after : List Nat) (i : Nat)
    (hi : g.eligibleAt a i = true) (hb : ∀ j ∈ before, g.eligibleAt a j = false) :
    g.searchIn a (before ++ i :: after) = g.choose i := by
  have h : (before ++ i :: after).find? (fun j => g.eligibleAt a j) = some i := by
    rw [List.find?_append, List.find?_eq_none.mpr fun j hj => by simp [hb j hj]]
    simp [hi]
  unfold ScanGroup.searchIn
  rw [h]

/-- Without an eligible index the group is EMPTY. -/
theorem ScanGroup.searchIn_none (a : Activity) (g : ScanGroup) (order : List Nat)
    (h : ∀ j ∈ order, g.eligibleAt a j = false) : g.searchIn a order = { g with current := none, dwell := 0 } := by
  unfold ScanGroup.searchIn
  rw [List.find?_eq_none.mpr fun j hj => by simp [h j hj]]

/-! ### A reading ahead of the scan step (05 R98; log 47) -/

/-- A take puts right no more than what the switch has read. -/
theorem State.readBeforeTake_only (s : State) (g : GroupNo) :
    s.readBeforeTake g = { s with switch := (s.readBeforeTake g).switch } := by
  unfold State.readBeforeTake
  split <;> rfl

theorem State.readBeforeTake_stepped (s : State) (g : GroupNo) (h : s.switch.scanAhead[g] = false) :
    s.readBeforeTake g = s := by
  unfold State.readBeforeTake
  rw [h]
  rfl

theorem State.readBeforeTake_ahead (s : State) (g : GroupNo) (h : s.switch.scanAhead[g] = true) :
    (s.readBeforeTake g).switch.srcScans[g] = s.groupOutput s.groups[g] ∧
    (s.readBeforeTake g).switch.scanFrom[g] = s.groups[g].currentSlot ∧
    (s.readBeforeTake g).switch.scanAhead[g] = false := by
  unfold State.readBeforeTake
  rw [h]
  simp [State.onSwitch]

/-- A SCAN_CONTROL that changes nothing leaves the reading as it stands (05 R100). -/
theorem State.readBeforeControl_unmoved (s : State) (g : GroupNo) (action : Nat) (h : s.groups[g].unmoved action = true) :
    s.readBeforeControl g action = s := by
  unfold State.readBeforeControl
  rw [h]
  rfl

theorem State.readBeforeControl_moved (s : State) (g : GroupNo) (action : Nat) (h : s.groups[g].unmoved action = false) :
    s.readBeforeControl g action = s.readBeforeTake g := by
  unfold State.readBeforeControl
  rw [h]
  rfl

/-! ### The check of an edit (03 R56) -/

/-- Of the edits before it the check of an edit sees only which targets they have. -/
theorem State.judgeEdit_targets (s : State) (before before' : List SlotIndex) (w : Word × Word)
    (h : ∀ k, k ∈ before ↔ k ∈ before') : s.judgeEdit before w = s.judgeEdit before' w := by
  have same : ∀ k, before.contains k = before'.contains k := fun k => by
    rw [Bool.eq_iff_iff]
    simp [h]
  unfold State.judgeEdit
  simp only [same]

end Sys2Proof.Machine
end

