-- ==== Sys2Proof/Laws/Switch.lean ====
section
/-! SUPPORT. What a change of the map does to the map and to the stream references, for one entry, a DROP_TAG and an edit list; the octets formed. -/

namespace Sys2Proof.Machine

/-! ### One entry (03 R60, R74) -/

/-- A reported loss touches no switch. -/
theorem State.sourceLoss_switch (s : State) (x : Source) : (s.sourceLoss x).switch = s.switch := by
  unfold State.sourceLoss
  split <;> rfl

theorem State.sourceGain_switch (s : State) (x : Source) : (s.sourceGain x).switch = s.switch := by
  unfold State.sourceGain
  split <;> rfl

/-- A reported loss lowers the count of the stream that the source names, and changes no other stream. -/
theorem State.sourceLoss_stream (s : State) (x : Source) (n : StreamNo) :
    (s.sourceLoss x).streams[n] = { s.streams[n] with refs := s.streams[n].refs - if x = .stream n then 1 else 0 } := by
  unfold State.sourceLoss
  cases x with
  | stream m =>
    simp [Source.stream?, State.refLoss, State.onStream, updAt]
    by_cases h : m = n
    · subst h
      simp
    · have : m.val ≠ n.val := fun e => h (Fin.ext e)
      simp [this, h]
  | _ => simp [Source.stream?]

/-- A reported gain raises the count of the stream that the source names, and changes no other stream. -/
theorem State.sourceGain_stream (s : State) (x : Source) (n : StreamNo) :
    (s.sourceGain x).streams[n] = { s.streams[n] with refs := s.streams[n].refs + if x = .stream n then 1 else 0 } := by
  unfold State.sourceGain
  cases x with
  | stream m =>
    simp [Source.stream?, State.refGain, State.onStream, updAt]
    by_cases h : m = n
    · subst h
      simp
    · have : m.val ≠ n.val := fun e => h (Fin.ext e)
      simp [this, h]
  | _ => simp [Source.stream?]

/-- A replaced entry changes the map alone at the switch. -/
theorem State.replaceEntry_switch (s : State) (k : SlotIndex) (e : RouteEntry) :
    (s.replaceEntry k e).switch = { s.switch with map := s.switch.map.set k e } := by
  unfold State.replaceEntry State.onSwitch
  rw [State.sourceGain_switch, State.sourceLoss_switch]

/-- A replaced entry moves one reference from the old source to the new one. -/
theorem State.replaceEntry_stream (s : State) (k : SlotIndex) (e : RouteEntry) (n : StreamNo) :
    (s.replaceEntry k e).streams[n] = { s.streams[n] with
      refs := s.streams[n].refs - (if s.switch.map[k].source = .stream n then 1 else 0) +
        if e.source = .stream n then 1 else 0 } := by
  show ((s.sourceLoss _).sourceGain _).streams[n] = _
  rw [State.sourceGain_stream, State.sourceLoss_stream]

/-! ### DROP_TAG (03 R62) -/

/-- Entries emptied one after the other lose each stream's references by the number of them that named it. -/
theorem State.emptied_stream (ks : List SlotIndex) (hn : ks.Nodup) (s : State) (n : StreamNo) :
    (ks.foldl (fun s k => s.replaceEntry k {}) s).streams[n] = { s.streams[n] with
      refs := s.streams[n].refs - ks.countP fun k => s.switch.map[k].source == .stream n } := by
  induction ks generalizing s with
  | nil => rfl
  | cons k ks ih =>
    obtain ⟨h1, h2⟩ := List.nodup_cons.1 hn
    have same : (ks.countP fun j => (s.switch.map.set k {})[j].source == .stream n) =
        ks.countP fun j => s.switch.map[j].source == .stream n := by
      apply List.countP_congr
      intro j hj
      have : k.val ≠ j.val := fun e => h1 (by rw [Fin.ext e]; exact hj)
      simp [this]
    have none_gained : (if ({} : RouteEntry).source = .stream n then 1 else 0) = 0 := by simp
    have lost : (if (s.switch.map[k].source == .stream n) = true then 1 else 0) =
        if s.switch.map[k].source = .stream n then 1 else 0 := by simp only [beq_iff_eq]
    rw [List.foldl_cons, ih h2, State.replaceEntry_stream, State.replaceEntry_switch, List.countP_cons, none_gained, lost]
    dsimp only
    rw [same, Nat.add_zero, Nat.sub_sub, Nat.add_comm]

/-! ### Edit lists (03 R59, R60) -/

/-- The source that an applied edit leaves names a stream exactly if the edit puts it. -/
theorem Edit.entry_names (e : Edit) (n : StreamNo) : e.entry.source = .stream n ↔ e.put = true ∧ e.source = .stream n := by
  unfold Edit.entry
  split <;> simp_all

/-- An applied list loses the references that its targets held and gains those that it puts. -/
theorem State.applied_stream (es : List Edit) (hn : (es.map fun e => e.target).Nodup) (s : State) (n : StreamNo) :
    let losses := es.countP fun e => s.switch.map[e.target].source == .stream n
    let gains := es.countP fun e => e.put && e.source == .stream n
    let t := es.foldl State.applyEdit s
    t.streams[n] = { s.streams[n] with refs := t.streams[n].refs } ∧
    (losses ≤ s.streams[n].refs → t.streams[n].refs = s.streams[n].refs - losses + gains) := by
  induction es generalizing s with
  | nil => exact ⟨rfl, fun _ => rfl⟩
  | cons e es ih =>
    obtain ⟨h1, h2⟩ := List.nodup_cons.1 hn
    obtain ⟨i1, i2⟩ := ih h2 (s.applyEdit e)
    have sw : (s.applyEdit e).switch = { s.switch with map := s.switch.map.set e.target e.entry } :=
      State.replaceEntry_switch _ _ _
    have st : (s.applyEdit e).streams[n] = _ := State.replaceEntry_stream s e.target e.entry n
    have same : (es.countP fun j => (s.applyEdit e).switch.map[j.target].source == .stream n) =
        es.countP fun j => s.switch.map[j.target].source == .stream n := by
      rw [sw]
      apply List.countP_congr
      intro j hj
      have : e.target.val ≠ j.target.val := fun x => h1 (List.mem_map.2 ⟨j, hj, (Fin.ext x).symm⟩)
      simp [this]
    rw [same, st] at i2
    refine ⟨by rw [List.foldl_cons, i1, st], fun h => ?_⟩
    rw [List.countP_cons] at h
    rw [List.foldl_cons, List.countP_cons, List.countP_cons]
    have gained : (if (e.put && e.source == .stream n) = true then 1 else 0) = if e.entry.source = .stream n then 1 else 0 := by
      simp only [Bool.and_eq_true, beq_iff_eq, e.entry_names n]
    have lost : (if (s.switch.map[e.target].source == .stream n) = true then 1 else 0) =
        if s.switch.map[e.target].source = .stream n then 1 else 0 := by simp only [beq_iff_eq]
    rw [gained, lost]
    rw [lost] at h
    dsimp only at i2
    generalize (if s.switch.map[e.target].source = .stream n then 1 else 0) = lose at *
    generalize (if e.entry.source = .stream n then 1 else 0) = gain at *
    rw [i2 (by omega)]
    omega

/-! ### Forming (03 R49) -/

/-- The octet formed for a slot is the one held for its entry's source. -/
theorem Switch.form_out (w : Switch) (k : SlotIndex) : w.form.out[k] = w.sourceOctet w.map[k].source := by
  simp [Switch.form, tabulate]

end Sys2Proof.Machine
end

