-- ==== Sys2Proof/Laws/Takes.lean ====
section
/-! SUPPORT. What the take commands can do, once for all owners: cite these instead of unfolding takeWith. -/

namespace Sys2Proof.Machine

theorem State.startTake_eq (s : State) (r : WorkRecord) : s.startTake r.held.offset = taken s r := rfl

theorem endTake_taken (s : State) (r : WorkRecord) (o : OutcomeCode) (d : Octet) :
    (taken s r).endTake r.held o d = ended s r o d := rfl

theorem keepTake_taken (s : State) (r : WorkRecord) : (taken s r).keepTake r.held = kept s r := rfl

theorem endWalk_blocked (s : State) : s.endWalk .blocked = blocked s := rfl

theorem raise_withCause (s : State) (c : Cause) : s.raise c = withCause s c := rfl

/-- The records of a kind are those of its command. -/
theorem ofKind_of (k : Kind) (r : WorkRecord) (h : kindOf r.kind = some k) : ofKind k r = true := by
  simp [ofKind, WorkRecord.isKind, h]

theorem isKind_of (k : Kind) (r : WorkRecord) (h : kindOf r.kind = some k) : r.isKind k = true := by
  simp [WorkRecord.isKind, h]

/-- The owners without a collection are never full. -/
theorem ownerFull_false (s : State) (r : WorkRecord) (k : Kind) (h : kindOf r.kind = some k)
    (hk : k ≠ .editMap ∧ k ≠ .dropTag ∧ k ≠ .fallbackControl ∧ k ≠ .send ∧ k ≠ .listen ∧ k ≠ .probe) :
    s.ownerFull r = false := by
  unfold State.ownerFull State.collectionFull State.outboundFull
  rw [h]
  cases k <;> simp_all

/-- A take with room, on a state without PORESET: the owner acts on the state with the record taken. -/
theorem take_next (s : State) (k : Kind) (r : WorkRecord) (mine : WorkRecord → Bool) (owner : State → WorkRecord → State)
    (hf : Found s k r) (hm : mine r = true) (hr : s.ownerFull r = false) :
    (whileReleased s fun s => s.takeWith mine owner) = .next (owner (taken s r) r) := by
  rw [whileReleased_next _ _ hf.1, State.takeWith_found _ _ _ r hf.2.1 hm hr, State.startTake_eq]

/-- The same with bus cycles. -/
theorem take_nextBus (s : State) (k : Kind) (r : WorkRecord) (bus : List BusCycle) (mine : WorkRecord → Bool)
    (owner : State → WorkRecord → State) (hf : Found s k r) (hm : mine r = true) (hr : s.ownerFull r = false) :
    (whileReleasedBus s bus fun s => s.takeWith mine owner) =
      .next ((owner (taken (s.setBus { cycles := bus, cut := false }) r) r).setBus {}) := by
  rw [whileReleasedBus_next _ _ _ hf.1]
  unfold State.withBus
  dsimp only
  rw [State.takeWith_found (s.setBus { cycles := bus, cut := false }) _ _ r hf.2.1 hm hr, State.startTake_eq]

/-- A take whose owner is full. -/
theorem take_full (s : State) (k : Kind) (r : WorkRecord) (mine : WorkRecord → Bool) (owner : State → WorkRecord → State)
    (hf : Found s k r) (hm : mine r = true) (hr : s.ownerFull r = true) :
    (whileReleased s fun s => s.takeWith mine owner) = .next (blocked s) := by
  rw [whileReleased_next _ _ hf.1, State.takeWith_full _ _ _ r hf.2.1 hm hr, endWalk_blocked]

/-- A kind that ends at take: the owner's answer, and its retirement asked for. -/
theorem take_ends (s : State) (k : Kind) (r : WorkRecord) (own : State → WorkRecord → OutcomeCode × Octet × State)
    (hf : Found s k r)
    (hk : k ≠ .editMap ∧ k ≠ .dropTag ∧ k ≠ .fallbackControl ∧ k ≠ .send ∧ k ≠ .listen ∧ k ≠ .probe) :
    (whileReleased s fun s => s.takeWith (ofKind k) (ending own)) =
      .next ((own (taken s r) r).2.2.endTake r.held (own (taken s r) r).1 (own (taken s r) r).2.1) := by
  rw [take_next s k r _ _ hf (ofKind_of k r hf.2.2) (ownerFull_false s r k hf.2.2 hk)]
  rfl

/-- The same with bus cycles. -/
theorem take_endsBus (s : State) (k : Kind) (r : WorkRecord) (bus : List BusCycle)
    (own : State → WorkRecord → OutcomeCode × Octet × State) (hf : Found s k r)
    (hk : k ≠ .editMap ∧ k ≠ .dropTag ∧ k ≠ .fallbackControl ∧ k ≠ .send ∧ k ≠ .listen ∧ k ≠ .probe) :
    (whileReleasedBus s bus fun s => s.takeWith (ofKind k) (ending own)) =
      .next ((ending own (taken (s.setBus { cycles := bus, cut := false }) r) r).setBus {}) :=
  take_nextBus s k r bus _ _ hf (ofKind_of k r hf.2.2)
    (ownerFull_false s r k hf.2.2 hk)

end Sys2Proof.Machine
end

