-- ==== Sys2Proof/Tests/Slice0.lean ====
section
/-! SUPPORT. Own tests: ill-formed terms refused, states that meet the hypotheses of the statements, and single steps. -/

namespace Sys2Proof.Tests

open Sys2Proof.Machine

/-! ### Ill-formed terms are refused -/

theorem test_boundary_work_twice_is_refused :
    (Instr.frameBoundary true [.walk, .period, .walk] []).wellFormed = false ∧
    (Instr.frameBoundary true [.sender 0, .sender 1, .walk] []).wellFormed = true := by decide

theorem test_soft_reset_without_the_code_is_refused :
    (Instr.softReset 0x3D00 []).wellFormed = false ∧ (Instr.softReset 0x3C00 []).wellFormed = true := by decide

theorem test_work_cut_twice_is_refused :
    (Instr.powerOnReset [⟨.headerInit, []⟩, ⟨.headerInit, [{}]⟩]).wellFormed = false ∧
    (Instr.softReset 0x3C00 [⟨.retirement, []⟩, ⟨.heldWrite, []⟩, ⟨.retirement, []⟩]).wellFormed = false ∧
    (Instr.powerOnReset [⟨.handover 0, []⟩, ⟨.handover 1, []⟩]).wellFormed = true := by decide

theorem test_run_with_code_or_resume_is_refused :
    (Instr.run 0x3C01 []).wellFormed = false ∧ (Instr.run 3 []).wellFormed = false ∧ (Instr.run 1 []).wellFormed = true := by
  decide

theorem test_resume_with_code_or_without_resume_is_refused :
    (Instr.resume 0x3C02 []).wellFormed = false ∧ (Instr.resume 1 []).wellFormed = false ∧
    (Instr.resume 3 []).wellFormed = true := by decide

theorem test_effective_write_is_not_ignored :
    (Instr.registerWriteIgnored 0x10 1 0xF).wellFormed = false ∧ (Instr.registerWriteIgnored 0x10 1 0x7).wellFormed = true ∧
    (Instr.registerWriteIgnored 0x00 1 0xF).wellFormed = true ∧ (Instr.registerWriteIgnored 0x08 1 0xF).wellFormed = true ∧
    (Instr.registerWriteIgnored 0x14 1 0xF).wellFormed = false ∧ (Instr.registerWriteIgnored 0x18 1 0xF).wellFormed = true := by
  decide

theorem test_image_words_out_of_range_are_refused :
    (Instr.activityImageWrite 0 []).wellFormed = false ∧ (Instr.activityImageWrite 5 []).wellFormed = false ∧
    (Instr.activityImageWrite 1 []).wellFormed = true ∧ (Instr.activityImageWrite 4 []).wellFormed = true := by decide

theorem test_no_word_spells_a_command (n w : Nat) : decodeTableWord n w = none ∧
    ∀ s : State, s.withFetchWord n w = s := ⟨rfl, fun _ => rfl⟩

/-! ### Small states -/

/-- A part that runs: RUN 1, the header written, node 1, port 0 LINKED and on the way to every other node. -/
def live : State :=
  { State.reset with
    regs := { run := true }
    walker := { status := .idle, headerWritten := true }
    lines := State.reset.lines.set 0 { line := .linked, peer := 2, seen := true, tx := { line := .linked } }
    router := { node := 1, table := Vector.replicate 8 (some 0) } }

/-- A record at offset 0x1000 with NOTIFY. -/
def rc (code : Octet) (body : List Word) : WorkRecord :=
  { held := { offset := 0x1000, notify := true, haltOnFail := false }, kind := code, body := body }

/-- The state with that record found. -/
def fd (s : State) (code : Octet) (body : List Word) : State :=
  { s with walker := { s.walker with walk := .found (rc code body) } }

/-- The descriptor of an open FEED. -/
def feed : StreamDesc :=
  { status := .opened, dir := .feed, halfA := 0x2000, halfB := 0x2100, len := 8, block := 0x2200, notify := true }

/-- The state with a stream's descriptor set. -/
def withDesc (s : State) (n : StreamNo) (d : StreamDesc) : State := s.onStream n fun _ => { desc := some d, frameDue := true }

/-- A message for node 1 from node 2. -/
def message (kind : MessageKind) : Message := { dest := 1, source := 2, hop := 3, kind := kind, payload := [7] }

/-- A LISTEN that the pool holds. -/
def listener : Held := { offset := 0x3000, notify := false, haltOnFail := false }

/-- `live` with one line unit changed. -/
def lined (p : Port) (l : LineUnit) : State := { live with lines := live.lines.set p l }

/-- The state after a command. -/
def after (c : Instr) (s : State) : State :=
  match exec c s with
  | .next t => t
  | .fault _ | .refused _ => s

theorem found_fd (s : State) (code : Octet) (body : List Word) (k : Kind) (h : s.regs.poreset = false) (hk : kindOf code = some k) :
    Found (fd s code body) k (rc code body) := ⟨h, rfl, hk⟩

/-! ### States that meet the hypotheses: queue, resets, registers -/

theorem test_meets_StepTakesTheFrontCommand : State.reset.pending = [] := rfl

theorem test_meets_PowerOnReset :
    ({ State.reset with regs := { poreset := true } } : State).regs.poreset = true ∧ (∀ cuts, Instr.nop ≠ .powerOnReset cuts) ∧
    Instr.nop ≠ .poresetRelease ∧ exec (.powerOnReset []) live = .next live.powerOn :=
  ⟨rfl, fun _ h => Instr.noConfusion h, by decide, rfl⟩

/-- 10 R183: a cut writes what its accesses had written, once, and nothing while PORESET is asserted. -/
theorem test_cut_writes_once :
    let h : Held := { offset := 0x1000, notify := false, haltOnFail := false }
    let s : State := { live with retire := [.retire h .done 0 [] false] }
    let cut : Cut := ⟨.retirement, [{}, {}, {}]⟩
    ((s.applyCuts [cut, cut]).mem = (s.applyCuts [cut]).mem ∧ (s.applyCuts [cut]).mem.read 0x1000 = 4 ∧
      (s.applyCuts [cut]).mem.readWord 8 = 1) ∧
    (s.powerOn.applyCuts [⟨.headerInit, [{}]⟩]).mem = s.mem := by decide +kernel

theorem test_meets_SoftReset : live.regs.poreset = false ∧ isResetCode 0x3C00 = true := by decide

theorem test_meets_RunWritten :
    live.regs.poreset = false ∧ (isResetCode 1 = false ∧ (1 : Word).getLsbD 1 = false) ∧
    (isResetCode 0 = false ∧ (0 : Word).getLsbD 1 = false) ∧
    ((1 : Word).getLsbD 0 = live.regs.run ∧ (0 : Word).getLsbD 0 = State.reset.regs.run) ∧
    (({ State.reset with walker := { headerWritten := true } } : State).walker.headerWritten = true ∧
      (1 : Word).getLsbD 0 = true ∧ State.reset.regs.run = false) ∧
    (live.regs.run = true ∧ live.walker.walk ≠ .taking ∧ live.walker.status ≠ .halted) ∧
    (({ live.walker with status := .halted } : Walker).status = .halted ∧
      ({ live.walker with status := .halted } : Walker).walk ≠ .taking) ∧
    ({ live.walker with walk := .taking } : Walker).walk = .taking := by decide

theorem test_meets_FirstRunWritesTheHeader :
    State.reset.regs.poreset = false ∧ isResetCode 1 = false ∧ (1 : Word).getLsbD 1 = false ∧ State.reset.regs.run = false ∧
    (1 : Word).getLsbD 0 = true ∧ State.reset.walker.headerWritten = false ∧ State.reset.walker.walk ≠ .taking ∧
    State.reset.walker.status ≠ .halted := by decide

theorem test_meets_ResumeWritten :
    live.regs.poreset = false ∧ isResetCode 3 = false ∧ isResetCode 2 = false ∧ (3 : Word).getLsbD 1 = true ∧
    (2 : Word).getLsbD 1 = true ∧ (3 : Word).getLsbD 0 = live.regs.run ∧ (2 : Word).getLsbD 0 = State.reset.regs.run ∧
    live.walker.status ≠ .halted ∧ ({ live.walker with status := .halted } : Walker).status = .halted ∧
    ({ live.walker with status := .halted } : Walker).headerWritten = true ∧ live.regs.run = true ∧
    (2 : Word).getLsbD 0 = false ∧ ({ live.walker with status := .halted } : Walker).walk ≠ .taking ∧
    (∃ t, exec (.run (3 &&& 0xFFFFFFFD) []) live = .next t ∧ t.walker.status ≠ .halted) ∧
    ∃ t, exec (.run (3 &&& 0xFFFFFFFD) (errorAfter 1)) State.reset = .next t ∧ t.walker.status = .halted :=
  ⟨by decide, by decide, by decide, by decide, by decide, by decide, by decide, by decide, by decide, by decide, by decide, by decide,
    by decide, ⟨_, rfl, by decide⟩, _, rfl, by decide⟩

theorem test_meets_AreaBaseWritten :
    State.reset.regs.poreset = false ∧ State.reset.regs.run = false ∧ live.regs.run = true ∧ isResetCode 0x3C00 = true := by decide

theorem test_meets_AttentionWritten :
    live.regs.poreset = false ∧ (0 < 7 ∧ 6 < 7) ∧ (0 < 32 ∧ 31 < 32) ∧
    (0x7F : Word).setWidth 7 &&& Cause.bus.bit = Cause.bus.bit ∧ (1 : Word).setWidth 7 &&& Cause.retire.bit = Cause.retire.bit := by
  decide

theorem test_meets_AttentionEnableAndAttn : live.regs.poreset = false ∧ isResetCode 0x3C00 = true ∧
    (∃ t, exec (.attentionEnable 1) live = .next t) ∧ (∃ t, exec (.attention 1) live = .next t) ∧
    (∃ t, exec (.powerOnReset []) live = .next t) ∧ ∃ t, exec (.softReset 0x3C00 []) live = .next t :=
  ⟨by decide, by decide, ⟨_, rfl⟩, ⟨_, rfl⟩, ⟨_, rfl⟩, ⟨_, rfl⟩⟩

theorem test_meets_RegisterReads : 0x18 ≤ (0x18 : BitVec 5).toNat ∧ 0x18 ≤ (0x1F : BitVec 5).toNat := by decide

/-! ### Retire path and walk -/

theorem test_meets_HeldWriteServed :
    let w : Walker := { live.walker with walk := .taking, cursor := some 0x1000 }
    let s : State := { live with retire := [.held 0x1000 true], walker := w }
    s.regs.poreset = false ∧ s.retire = .held 0x1000 true :: [] ∧ w.walk = .taking ∧ w.status ≠ .halted ∧
    w.cursor = some 0x1000 ∧ w.haltPending = none ∧ s.regs.run = true ∧ w.stopping = false ∧ w.takes < 3 ∧
    3 ≤ ({ w with takes := 3 } : Walker).takes ∧ ({ s.regs with run := false } : Registers).run = false ∧
    ({ w with stopping := true } : Walker).stopping = true ∧
    ({ w with haltPending := some .recordFailed } : Walker).haltPending = some .recordFailed := by
  decide +kernel

theorem test_meets_RetirementServed :
    let h : Held := { offset := 0x1000, notify := true, haltOnFail := true }
    let s : State := { live with retire := [.retire h .state 0 [] false] }
    s.regs.poreset = false ∧ s.retire = .retire h .state 0 [] false :: [] ∧ s.walker.walk ≠ .taking ∧
    OutcomeCode.state ≠ .done ∧ h.haltOnFail = true ∧ s.walker.status ≠ .halted ∧ (OutcomeCode.done = .done) ∧
    ({ s.walker with walk := .taking } : Walker).walk = .taking := by
  decide +kernel

theorem test_meets_RetirementEndsTheTake :
    let h : Held := { offset := 0x1000, notify := true, haltOnFail := true }
    let w : Walker := { live.walker with walk := .taking, cursor := some 0x1000, takes := 2 }
    let s : State := { live with retire := [.retire h .done 0 [] true], walker := w }
    s.regs.poreset = false ∧ s.retire = .retire h .done 0 [] true :: [] ∧ w.walk = .taking ∧ w.status ≠ .halted ∧
    w.cursor = some 0x1000 ∧ w.haltPending = none ∧ ¬ (OutcomeCode.done ≠ .done ∧ h.haltOnFail = true) ∧
    (OutcomeCode.state ≠ .done ∧ h.haltOnFail = true) ∧ s.regs.run = true ∧ w.stopping = false ∧ w.takes < 3 ∧
    3 ≤ ({ w with takes := 3 } : Walker).takes ∧ ({ s.regs with run := false } : Registers).run = false ∧
    ({ w with stopping := true } : Walker).stopping = true ∧
    ({ w with haltPending := some .bus } : Walker).haltPending = some .bus ∧ 0 < 3 ∧ 2 < 3 := by
  decide +kernel

theorem test_meets_RetirementBusError :
    let s : State := { live with retire := [.retire listener .done 0 [] false] }
    s.regs.poreset = false ∧ s.retire = .retire listener .done 0 [] false :: [] ∧ s.walker.walk ≠ .taking ∧
    s.walker.status ≠ .halted ∧ ({ s.walker with walk := .taking } : Walker).walk = .taking ∧
    ({ s.walker with status := .halted } : Walker).status = .halted ∧ 0 < ([] : List (Nat × Word)).length + 3 ∧ 2 < ([] : List (Nat × Word)).length + 3 := by
  decide +kernel

/-- A part whose chain start names offset 0x1000, with a header word there. -/
def chain (link header : Word) : State :=
  { live with
    walker := { live.walker with walkDue := true }
    mem := ((State.reset.mem).writeWord 0 link).writeWord 0x1000 header }

theorem test_meets_LookOutcomes :
    (let s := chain 0x1000 0x00000101
     s.regs.poreset = false ∧ s.regs.run = true ∧ s.walker.walkDue = true ∧ s.walker.status ≠ .halted ∧ s.walker.walk = .none ∧
     s.walker.chainStarted = false ∧ s.mem.readWord (s.busAddress 0) = 0x1000 ∧
     wordByte (s.mem.readWord (s.busAddress 0x1000)) 0 = 0x01 ∧
     s.collectionFull (rc 0x01 []) = false) ∧
    (let w : Walker := { live.walker with chainStarted := true, cursor := some 0x1000 }
     w.chainStarted = true ∧ w.cursor = some 0x1000) ∧
    State.reset.mem.readWord (State.reset.busAddress 0) = 0 ∧
    ([(0x3C : Word), 0x41, 0xFFFF4, 0x100000].all fun link =>
      link != 0 && !(decide (link.toNat % 4 = 0 ∧ 0x40 ≤ link.toNat ∧ link.toNat ≤ 0xFFFF0))) ∧
    ([(0x40 : Word), 0xFFFF0].all fun link => decide (link.toNat % 4 = 0 ∧ 0x40 ≤ link.toNat ∧ link.toNat ≤ 0xFFFF0)) ∧
    (let s := chain 0x1000 0x00000103
     wordByte (s.mem.readWord (s.busAddress 0x1000)) 0 ≠ 0x01) ∧
    (let s := chain 0x1000 0x0000FF01
     wordByte (s.mem.readWord (s.busAddress 0x1000)) 0 = 0x01) ∧
    (let s := { chain 0x1000 0x10004101 with router := { listens := List.replicate 8 listener } }
     s.collectionFull (rc 0x41 (List.replicate 16 0)) = true) := by
  decide +kernel

theorem test_meets_LookOutcomes_checks :
    commonChecks 0x1000 ((chain 0x1000 0x00000101).mem.readWord 0x1000) = .ok .nop ∧
    commonChecks 0x1000 ((chain 0x1000 0x0000FF01).mem.readWord 0x1000) = .error .badKind ∧
    commonChecks 0x1000 ((chain 0x1000 0x10004101).mem.readWord 0x1000) = .ok .listen := ⟨rfl, rfl, rfl⟩

theorem test_meets_CommonChecks :
    60 < (wordByte 0x3D000101 3).toNat ∧
    ((wordByte 0x3C000101 3).toNat ≤ 60 ∧ 0x100000 < (0xFFF04 : Offset).toNat + 16 + 4 * (wordByte 0x3C000101 3).toNat) ∧
    ((wordByte 0x3C000001 3).toNat ≤ 60 ∧ (0xFFF00 : Offset).toNat + 16 + 4 * (wordByte 0x3C000001 3).toNat ≤ 0x100000 ∧
      kindOf (wordByte 0x3C000001 1) = none) ∧
    (kindOf (wordByte 0x0F004101 1) = some .listen ∧ (wordByte 0x0F004101 3).toNat < Kind.listen.minBody) ∧
    (kindOf (wordByte 0x10004101 1) = some .listen ∧ Kind.listen.minBody ≤ (wordByte 0x10004101 3).toNat) ∧
    (kindOf 0x00 = none ∧ kindOf 0x54 = none ∧ kindOf 0xFF = none) := by
  decide +kernel

theorem test_meets_NoLookAndFailedLook :
    (chain 0x1000 0).regs.poreset = false ∧ (chain 0x1000 0).walker.walkDue = true ∧ (chain 0x1000 0).walker.status ≠ .halted ∧
    (chain 0x1000 0).walker.walk = .none ∧ (chain 0x1000 0).regs.run = true ∧
    ({ (chain 0x1000 0).walker with status := .halted } : Walker).status = .halted ∧
    ({ (chain 0x1000 0).regs with run := false } : Registers).run = false ∧ live.walker.walkDue = false ∧
    ((chain 0x1000 0).walker.chainStarted = false ∧ (chain 0x1000 0).mem.readWord ((chain 0x1000 0).busAddress 0) = 0x1000) ∧
    (let w : Walker := { live.walker with chainStarted := true, cursor := some 0xFFC }
     w.chainStarted = true ∧ w.cursor = some 0xFFC ∧ (0x1000 : Offset) = 0xFFC + 4) ∧
    (let s := chain 0x1000 0x10004101
     wordByte (s.mem.readWord (s.busAddress 0x1000)) 0 = 0x01 ∧ (2 : Nat) ≤ 2 ∧ 4 ≤ 4 ∧ 5 ≤ 5 ∧
     20 < 5 + (wordByte (s.mem.readWord (s.busAddress 0x1000)) 3).toNat) := by
  decide +kernel

/-- 01 R19: a bus error on the last body word of a LISTEN halts the walker, and a whole look finds the record. -/
theorem test_failed_look :
    let walked (k : Nat) : Walker := (after (.frameBoundary false [.walk] (errorAfter k)) (chain 0x1000 0x01004001)).walker
    ((walked 5).walk, (walked 5).haltReason) = (.none, .bus) ∧
    (walked 6).walk = .found { rc 0x40 [0] with held := { (rc 0x40 [0]).held with notify := false } } := by decide +kernel

/-- `live` with every collection of the switch and the router full. -/
def full : State :=
  { live with
    supervision := { fallback := true }
    switch := { slot := some { held := listener, change := .dropTag 1 } }
    router := { live.router with
      listens := List.replicate 8 listener
      probes := List.replicate 4 { held := listener, target := 2, serial := 0, blocks := 1 } }
    channels := live.channels.set 0 { queue := List.replicate 4 { msg := message .data, origin := .router } } }

theorem test_meets_FullCollectionBlocks :
    (∀ code body k, kindOf code = some k → Found (fd full code body) k (rc code body)) ∧
    (1 ≤ ((rc 0x10 [1, 0, 0]).byte 0 0).toNat ∧ ((rc 0x10 [1, 0, 0]).byte 0 0).toNat ≤ 24 ∧
      1 + 2 * ((rc 0x10 [1, 0, 0]).byte 0 0).toNat ≤ (rc 0x10 [1, 0, 0]).body.length ∧
      (fd full 0x10 [1, 0, 0]).switch.slot ≠ none) ∧
    (rc 0x11 [1]).byte 0 0 ≠ 0 ∧ ((rc 0x53 [2]).byte 0 0 = 2 ∧ (fd full 0x53 [2]).supervision.fallback = true) ∧
    8 ≤ (fd full 0x41 []).router.listens.length ∧
    (sendFault (rc 0x40 [0x00020F03]) = none ∧ (fd full 0x40 [0x00020F03]).route 3 = .out 0 ∧
      4 ≤ (fd full 0x40 [0x00020F03]).channels[(0 : Port)].queue.length) ∧
    (probeFault (rc 0x42 [0x00010703]) = none ∧ (fd full 0x42 [0x00010703]).route 3 = .out 0 ∧
      4 ≤ (fd full 0x42 [0x00010703]).router.probes.length) ∧
    ([rc 0x10 [1, 0, 0], rc 0x11 [1], rc 0x53 [2], rc 0x41 [], rc 0x42 [0x00010703]].all fun r =>
      full.collectionFull r && !live.collectionFull r) ∧
    ([rc 0x10 [0, 0, 0], rc 0x11 [0], rc 0x53 [1], rc 0x42 [0x00000703], rc 0x40 [0x00020F03]].all fun r =>
      !full.collectionFull r) :=
  ⟨fun _ _ _ h => found_fd _ _ _ _ rfl h, by decide +kernel⟩

/-! ### Takes -/

theorem test_meets_NopIsTakenAndDone :
    Found (fd live 0x01 []) .nop (rc 0x01 []) ∧ (rc 0x01 []).held.notify = true ∧ (fd live 0x01 []).retire = [] ∧
    ∃ t u, exec .nop (fd live 0x01 []) = .next t ∧ exec (.retirement []) t = .next u :=
  ⟨found_fd _ _ _ _ rfl rfl, rfl, rfl, _, _, rfl, rfl⟩

theorem test_meets_PortSetupTaken :
    (∀ s body, s.regs.poreset = false → Found (fd s 0x02 body) .portSetup (rc 0x02 body)) ∧
    4 ≤ ((rc 0x02 [4]).byte 0 0).toNat ∧
    (((rc 0x02 [0x103]).byte 0 0).toNat = (3 : Port).val ∧ ((rc 0x02 [0x103]).byte 0 1).getLsbD 0 = true) ∧
    State.reset.router.node = 0 ∧ live.router.node ≠ 0 ∧
    ((rc 0x02 [0]).byte 0 1).getLsbD 0 = false ∧ live.lines[(3 : Port)].line = .off ∧ live.lines[(0 : Port)].line ≠ .off ∧
    live.lines[(0 : Port)].line.runs = true ∧
    (live.lines[(0 : Port)].line = .linked ∧ live.lines[(0 : Port)].seen = true ∧ live.lines[(3 : Port)].seen = false) ∧
    (live.timer.passed = false ∧ ({ live with timer := { passed := true } } : State).timer.passed = true) ∧
    (live.switch.sourcesDue = false ∧ ({ live.switch with sourcesDue := true } : Switch).sourcesDue = true ∧
      live.switch.scanFrom[(7 : GroupNo)] = none ∧
      ({ live.switch with scanFrom := live.switch.scanFrom.set 7 (some 29) } : Switch).scanFrom[(7 : GroupNo)] = some 29) ∧
    (let d := { feed with dir := .tap 29, position := 2, buffer := [1, 2] }
     let s := live.onStream 15 fun _ => { desc := some d }
     s.streams[(15 : StreamNo)].desc = some d ∧ d.dir = .tap 29 ∧ SlotIndex.port 29 = 0 ∧ SlotIndex.port 30 ≠ 0 ∧
     s.streams[(15 : StreamNo)].frameDue = false ∧ d.status = .opened ∧ d.buffer = [1] ++ [2] ∧
     (withDesc live 15 d).streams[(15 : StreamNo)].frameDue = true ∧ feed.buffer = []) :=
  ⟨fun _ _ h => found_fd _ _ _ _ h rfl, by decide +kernel⟩

theorem test_meets_SetNodeTaken :
    (∀ s body, s.regs.poreset = false → Found (fd s 0x03 body) .setNode (rc 0x03 body)) ∧
    ((rc 0x03 [0]).byte 0 0 = 0 ∧ (rc 0x03 [255]).byte 0 0 = 255) ∧
    (let r := rc 0x03 [1, 4, 0]; let entry (i : Fin 8) : Octet := r.byte (1 + i.val / 4) (i.val % 4)
     r.byte 0 0 ≠ 0 ∧ r.byte 0 0 ≠ 255 ∧ ¬ ((entry 0).toNat < 4 ∨ entry 0 = 0xFF)) ∧
    (let r := rc 0x03 [254, 0xFF030201, 0xFE000000]; let entry (i : Fin 8) : Octet := r.byte (1 + i.val / 4) (i.val % 4)
     r.byte 0 0 ≠ 255 ∧ ¬ ((entry 7).toNat < 4 ∨ entry 7 = 0xFF) ∧ ∀ j : Fin 8, j < 7 → (entry j).toNat < 4 ∨ entry j = 0xFF) ∧
    (let r := rc 0x03 [2, 0xFF030201, 0]; let entry (i : Fin 8) : Octet := r.byte (1 + i.val / 4) (i.val % 4)
     r.byte 0 0 ≠ 0 ∧ (∀ i, (entry i).toNat < 4 ∨ entry i = 0xFF) ∧ r.byte 0 0 ≠ live.router.node ∧
     (∃ p : Port, live.lines[p].line = .linked) ∧ ∀ p : Port, State.reset.lines[p].line ≠ .linked) :=
  ⟨fun _ _ h => found_fd _ _ _ _ h rfl, by decide +kernel⟩

theorem test_meets_ChangesKept :
    (∀ code k, kindOf code = some k → ∀ body, Found (fd live code body) k (rc code body)) ∧
    (((rc 0x10 [0]).byte 0 0).toNat = 0 ∧ 24 < ((rc 0x10 [25]).byte 0 0).toNat) ∧
    (1 ≤ ((rc 0x10 [1, 0]).byte 0 0).toNat ∧ (rc 0x10 [1, 0]).body.length < 1 + 2 * ((rc 0x10 [1, 0]).byte 0 0).toNat) ∧
    (((rc 0x10 (24 :: List.replicate 48 0)).byte 0 0).toNat ≤ 24 ∧
      1 + 2 * ((rc 0x10 (24 :: List.replicate 48 0)).byte 0 0).toNat ≤ (rc 0x10 (24 :: List.replicate 48 0)).body.length) ∧
    live.switch.slot = none ∧ (rc 0x11 [0]).byte 0 0 = 0 ∧ (rc 0x11 [255]).byte 0 0 ≠ 0 :=
  ⟨fun _ _ h _ => found_fd _ _ _ _ rfl h, by decide +kernel⟩

theorem test_meets_QueryMapTaken :
    (∀ body, Found (fd live 0x12 body) .queryMap (rc 0x12 body)) ∧
    ([(0x3C : Word), 0x41, 0xFFE24].all fun w => decide ((rc 0x12 [w]).word 0 = w ∧
      (w.toNat % 4 ≠ 0 ∨ w.toNat < 0x40 ∨ 0x100000 < w.toNat + 480))) ∧
    ([(0x40 : Word), 0xFFE20].all fun w => decide ((rc 0x12 [w]).word 0 = w ∧
      ¬ (w.toNat % 4 ≠ 0 ∨ w.toNat < 0x40 ∨ 0x100000 < w.toNat + 480))) ∧ 0 < 120 ∧ 119 < 120 ∧
    (({} : RouteEntry).source = .none ∧ ({ source := .slot 119 } : RouteEntry).source = .slot 119 ∧
      ({ source := .stream 15 } : RouteEntry).source = .stream 15 ∧ ({ source := .scan 7 } : RouteEntry).source = .scan 7 ∧
      ({ source := .const 255 } : RouteEntry).source = .const 255) :=
  ⟨fun _ => found_fd _ _ _ _ rfl rfl, by decide +kernel⟩

theorem test_meets_SetActivityTaken :
    (∀ body, Found (fd live 0x20 body) .setActivity (rc 0x20 body)) ∧
    (((rc 0x20 [1]).byte 0 0).toNat < 2 ∧ 127 < ((rc 0x20 [128]).byte 0 0).toNat) ∧
    (2 ≤ ((rc 0x20 [2]).byte 0 0).toNat ∧ ((rc 0x20 [2]).byte 0 1).toNat < 1 ∧ 64 < ((rc 0x20 [0x417F]).byte 0 1).toNat ∧
      ((rc 0x20 [0x417F]).byte 0 0).toNat ≤ 127) ∧
    (1 ≤ ((rc 0x20 [0x0102]).byte 0 1).toNat ∧ ((rc 0x20 [0x407F]).byte 0 1).toNat ≤ 64) :=
  ⟨fun _ => found_fd _ _ _ _ rfl rfl, by decide +kernel⟩

theorem test_meets_SetScanTaken :
    let s := withDesc live 3 feed
    (∀ body, Found (fd s 0x21 body) .setScan (rc 0x21 body)) ∧
    (8 ≤ ((rc 0x21 [8]).byte 0 0).toNat ∧ 8 < ((rc 0x21 [0x907]).byte 0 1).toNat ∧ ((rc 0x21 [0x907]).byte 0 0).toNat < 8) ∧
    ((rc 0x21 [0x800]).body.length < 1 + ((rc 0x21 [0x800]).byte 0 1).toNat ∧ ((rc 0x21 [0x800]).byte 0 1).toNat ≤ 8) ∧
    (let r := rc 0x21 [0x0207, 0x05020001, 0xFF000302]
     ((r.byte 0 0).toNat = (7 : GroupNo).val ∧ 1 + (r.byte 0 1).toNat ≤ r.body.length ∧ s.isOpenFeed 3 = true) ∧
     parseMember (r.word 1) = .ok { source := .slot 0, dwell := 5 } ∧
     parseMember (r.word 2) = .ok { source := .stream 3, dwell := 255 }) ∧
    ((0 : Nat) < ((rc 0x21 [0x0107, 0]).byte 0 1).toNat ∧ parseMember ((rc 0x21 [0x0107, 0]).word (1 + 0)) = .error .badField ∧
      parseMember ((rc 0x21 [0x0107, 0x02]).word (1 + 0)) = .ok { source := .stream 0, dwell := 0 } ∧ s.isOpenFeed 0 = false) ∧
    (((wordByte 0x401 0).toNat = 1 ∧ 3 < (wordByte 0x401 1).toNat) ∧ (wordByte 0x10301 2).toNat < 2 ∧
      31 < (wordByte 0x200301 2).toNat ∧ ((wordByte 0x1F0301 1).toNat = (SlotIndex.port 119).val ∧
      (wordByte 0x1F0301 2).toNat = (SlotIndex.slot 119).val) ∧ ((wordByte 0x1002 0).toNat = 2 ∧ 15 < (wordByte 0x1002 1).toNat) ∧
      (wordByte 0xF02 1).toNat = (15 : StreamNo).val) ∧
    (let g : ScanGroup := { members := [{ source := .slot 0, dwell := 1 }, { source := .stream 3, dwell := 255 }], skipSilent := true }
     g.members[0]? = some { source := .slot 0, dwell := 1 } ∧ g.members[1]? = some { source := .stream 3, dwell := 255 } ∧
     g.current = none ∧ ({ g with current := some 7 }).current = some 7 ∧ live.activity.slots[(0 : SlotIndex)].active = false) :=
  ⟨fun _ => found_fd _ _ _ _ rfl rfl, by decide +kernel, by decide +kernel, ⟨by decide +kernel, rfl, rfl⟩,
    ⟨by decide +kernel, rfl, rfl, by decide +kernel⟩, by decide +kernel, by decide +kernel⟩

/-- `live` with a group of three members, the second current, the last silent. -/
def scanning : State :=
  { live with groups := live.groups.set 7 {
      members := [{ source := .slot 0, dwell := 2 }, { source := .slot 1, dwell := 3 }, { source := .slot 2, dwell := 0 }]
      current := some 1, dwell := 1 } }

theorem test_meets_ScanControlTaken :
    (∀ body, Found (fd scanning 0x22 body) .scanControl (rc 0x22 body)) ∧
    ((rc 0x22 [7]).byte 0 1 = 0 ∧ 4 < ((rc 0x22 [0x507]).byte 0 1).toNat) ∧
    (8 ≤ ((rc 0x22 [0x108]).byte 0 0).toNat ∧ ([(1 : Octet), 2, 3, 4].all fun x => (rc 0x22 [x.setWidth 32 <<< 8]).byte 0 1 == x)) ∧
    (scanning.groups[(7 : GroupNo)].hold = false ∧ ({ scanning.groups[(7 : GroupNo)] with hold := true }).hold = true) ∧
    ([(0x107 : Word), 0x207, 0x307, 0x407].all fun w => ((rc 0x22 [w]).byte 0 0).toNat == (7 : GroupNo).val) ∧
    (scanning.groups[(7 : GroupNo)].current = some 1 ∧ scanning.groups[(7 : GroupNo)].members.length = 3 ∧
      (scanning.groups[(7 : GroupNo)].search scanning.activity).current = some 0 ∧ 0 = (1 + 1 + 1) % 3 ∧
      (1 + 1 + 0) % 3 ≠ 0) ∧
    ((live.groups[(7 : GroupNo)].search live.activity).current = none) ∧
    (let g := { scanning.groups[(7 : GroupNo)] with current := none }
     g.current = none ∧ (g.search scanning.activity).current = some 0) ∧
    (8 ≤ ((rc 0x22 [0x80407]).byte 0 2).toNat ∧ ((rc 0x22 [0x70407]).byte 0 2).toNat < 8 ∧
      scanning.groups[(7 : GroupNo)].eligibleAt scanning.activity 7 = false ∧
      scanning.groups[(7 : GroupNo)].eligibleAt scanning.activity 2 = false ∧
      scanning.groups[(7 : GroupNo)].eligibleAt scanning.activity 0 = true) :=
  ⟨fun _ => found_fd _ _ _ _ rfl rfl, by decide +kernel⟩

theorem test_meets_OpenStreamTaken :
    (∀ s body, s.regs.poreset = false → Found (fd s 0x30 body) .openStream (rc 0x30 body)) ∧
    16 ≤ ((rc 0x30 [16]).byte 0 0).toNat ∧
    (((rc 0x30 [0x30F]).byte 0 0).toNat = (15 : StreamNo).val ∧
      ¬ ((rc 0x30 [0x30F]).byte 0 1 = 1 ∨ (rc 0x30 [0x30F]).byte 0 1 = 2)) ∧
    ((rc 0x30 [0x20F]).byte 0 1 = 2 ∧ (withDesc live 15 feed).streams[(15 : StreamNo)].desc ≠ none) ∧
    (live.streams[(15 : StreamNo)].desc = none ∧ (rc 0x30 [0x10F]).byte 0 1 = 1) ∧
    ([((4 : Nat), false), (8, true), (10, false), (1024, true), (1028, false)].all fun x =>
      decide (8 ≤ x.1 ∧ x.1 ≤ 1024 ∧ x.1 % 4 = 0) == x.2) ∧
    (let r := rc 0x30 [0x10F, 0x04001F03, 0x40, 0xFFC00, 0xFFFF8]
     (r.byte 1 2).toNat + 256 * (r.byte 1 3).toNat = 1024 ∧ (r.byte 1 0).toNat < 4 ∧ 2 ≤ (r.byte 1 1).toNat ∧
     (r.byte 1 1).toNat ≤ 31 ∧ 0x40 ≤ (r.word 2).toNat ∧ (r.word 3).toNat + 1024 ≤ 0x100000 ∧ (r.word 4).toNat + 8 ≤ 0x100000 ∧
     (r.word 2).toNat % 4 = 0 ∧ (r.word 3).toNat % 4 = 0 ∧ (r.word 4).toNat % 4 = 0) ∧
    (let r := rc 0x30 [0x10F, 0x00080104, 0x3C, 0xFFFFC, 0xFFFFC]
     ¬ (r.byte 1 0).toNat < 4 ∧ ¬ 2 ≤ (r.byte 1 1).toNat ∧ ¬ 0x40 ≤ (r.word 2).toNat ∧ ¬ (r.word 3).toNat + 8 ≤ 0x100000 ∧
     ¬ (r.word 4).toNat + 8 ≤ 0x100000) ∧
    wordByte (live.mem.readWord (live.busAddress 0x2200)) 0 = 0 :=
  ⟨fun _ _ h => found_fd _ _ _ _ h rfl, by decide +kernel⟩

theorem test_meets_CloseStreamTaken :
    (∀ s body, s.regs.poreset = false → Found (fd s 0x31 body) .closeStream (rc 0x31 body)) ∧
    16 ≤ ((rc 0x31 [16]).byte 0 0).toNat ∧ ((rc 0x31 [15]).byte 0 0).toNat = (15 : StreamNo).val ∧
    live.streams[(15 : StreamNo)].desc = none ∧
    (let s := (withDesc live 15 feed).refGain 15
     s.streams[(15 : StreamNo)].desc = some feed ∧ 0 < s.streams[(15 : StreamNo)].refs) ∧
    (let d := { feed with status := .fault }
     (withDesc live 15 d).streams[(15 : StreamNo)].desc = some d ∧ (withDesc live 15 d).streams[(15 : StreamNo)].refs = 0 ∧
     d.status = .fault ∧ d.accesses = []) ∧
    (let d := { feed with dir := .tap 119, position := 6, buffer := [1, 2], half := .b }
     let s := withDesc live 15 d
     s.streams[(15 : StreamNo)].desc = some d ∧ s.streams[(15 : StreamNo)].refs = 0 ∧ d.status = .opened ∧ d.dir = .tap 119 ∧
     d.accesses = [] ∧ d.finished = false ∧ d.position % 4 ≠ 0 ∧ d.half = .b) ∧
    (let d := { feed with dir := .tap 119, position := 4 }
     d.status = .opened ∧ d.status ≠ .fault ∧ d.position % 4 = 0 ∧ d.half = .a ∧ feed.status = .opened ∧ feed.dir = .feed) ∧
    (let d := { feed with status := .muted, lastHanded := some .b }
     d.status ≠ .opened ∧ d.status ≠ .fault ∧ d.lastHanded = some .b ∧ feed.lastHanded = none ∧ 0 ≤ 1 ∧ 2 ≤ 2) :=
  ⟨fun _ _ h => found_fd _ _ _ _ h rfl, by decide +kernel⟩

theorem test_meets_RoutingAndDelivery :
    (1 : Octet) = live.router.node ∧
    ((0x81 : Octet) ^^^ live.router.node).getLsbD 7 = true ∧
    (((0 : Octet) ^^^ live.router.node).getLsbD 0 = true ∧ ∀ j : Fin 8, 0 < j → ((0 : Octet) ^^^ live.router.node).getLsbD j = false) ∧
    State.reset.router.table[(7 : Fin 8)] = none ∧ live.router.table[(7 : Fin 8)] = some 0 ∧ live.lines[(0 : Port)].line = .linked ∧
    ({ live with router := { live.router with table := Vector.replicate 8 (some 3) } } : State).lines[(3 : Port)].line ≠ .linked ∧
    (let m : Message := { message .data with payload := List.replicate 48 1 }
     m.payload.length ≤ 48 ∧ 11 < (m.payload.length + 3) / 4) ∧
    (live.route 2 = .out 0 ∧ live.queueRoom 0 = true ∧ full.queueRoom 0 = false ∧ live.channels[(0 : Port)].queue.length < 4 ∧
      State.reset.route 2 = .noRoute ∧ (lined 0 {}).route 2 = .linkDown ∧ live.route 1 = .atHome) ∧
    (live.router.listens = [] ∧ full.router.listens = listener :: List.replicate 7 listener) ∧
    ((message .data).kind = .data ∧ (message .returned).kind = .returned ∧ (message .probe).kind = .probe ∧
      (message .probeReply).kind = .probeReply ∧ (message .data).kind ≠ .identify ∧ (message .probe).kind ≠ .data ∧
      (message .data).hop.toNat = 3 ∧ ({ message .data with hop := 1 }).hop.toNat ≤ 1) ∧
    (let e : ProbeEntry := { held := listener, target := 2, serial := 7, blocks := 1 }
     e.target = (message .probeReply).source ∧ (message .probeReply).payload.head? = some e.serial ∧
     ¬ ({ e with serial := 8 }).serial = 7 ∧ [{ e with serial := 8 }, e] = [{ e with serial := 8 }] ++ e :: []) := by
  decide +kernel

theorem test_meets_SendTaken :
    (∀ s body, s.regs.poreset = false → Found (fd s 0x40 body) .send (rc 0x40 body)) ∧
    ((rc 0x40 [0x00020F00]).byte 0 0 = 0 ∧ (rc 0x40 [0x00020FFF]).byte 0 0 = 255 ∧ ¬ 1 ≤ ((rc 0x40 [0x00020002]).byte 0 1).toNat ∧
      ¬ ((rc 0x40 [0x00021002]).byte 0 1).toNat ≤ 15 ∧ (rc 0x40 [0x00030F02]).byte 0 2 ≠ 2 ∧
      ¬ ((rc 0x40 [0x31020F02]).byte 0 3).toNat ≤ 48) ∧
    (let r := rc 0x40 [0x01020FFE]
     r.byte 0 0 ≠ 0 ∧ r.byte 0 0 ≠ 255 ∧ 1 ≤ (r.byte 0 1).toNat ∧ (r.byte 0 1).toNat ≤ 15 ∧ r.byte 0 2 = 2 ∧
     (r.byte 0 3).toNat ≤ 48 ∧ r.body.length < 1 + ((r.byte 0 3).toNat + 3) / 4) ∧
    (let r := rc 0x40 (0x30020101 :: List.replicate 12 0)
     (r.byte 0 3).toNat ≤ 48 ∧ 1 + ((r.byte 0 3).toNat + 3) / 4 ≤ r.body.length) ∧
    (live.route 1 = .atHome ∧ live.router.listens = [] ∧ full.router.listens = listener :: List.replicate 7 listener ∧
      State.reset.route 2 = .noRoute ∧
      ({ live with router := { live.router with table := Vector.replicate 8 (some 3) } } : State).route 2 = .linkDown ∧
      live.route 2 = .out 0 ∧ live.channels[(0 : Port)].queue.length < 4) :=
  ⟨fun _ _ h => found_fd _ _ _ _ h rfl, by decide +kernel⟩

theorem test_meets_ListenAndRecallTaken :
    (∀ body, Found (fd live 0x41 body) .listen (rc 0x41 body)) ∧ (∀ body, Found (fd full 0x43 body) .recallPool (rc 0x43 body)) ∧
    live.router.listens.length < 8 ∧
    ({ live with router := { listens := List.replicate 7 listener } } : State).router.listens.length < 8 :=
  ⟨fun _ => found_fd _ _ _ _ rfl rfl, fun _ => found_fd _ _ _ _ rfl rfl, by decide +kernel⟩

theorem test_meets_ProbeTaken :
    (∀ s body, s.regs.poreset = false → Found (fd s 0x42 body) .probe (rc 0x42 body)) ∧
    ((rc 0x42 [0x00010700]).byte 0 0 = 0 ∧ (rc 0x42 [0x000107FF]).byte 0 0 = 255 ∧ (rc 0x42 [0x00000702]).byte 0 2 = 0) ∧
    ((rc 0x42 [0x00FF07FE]).byte 0 0 ≠ 0 ∧ (rc 0x42 [0x00FF07FE]).byte 0 0 ≠ 255 ∧ (rc 0x42 [0x00FF07FE]).byte 0 2 ≠ 0) ∧
    (live.route 1 = .atHome ∧ State.reset.route 2 = .noRoute ∧ live.route 254 = .out 0 ∧
      ({ live with router := { live.router with table := Vector.replicate 8 (some 3) } } : State).route 2 = .linkDown) ∧
    live.channels[(0 : Port)].queue.length < 4 ∧ live.router.probes.length < 4 :=
  ⟨fun _ _ h => found_fd _ _ _ _ h rfl, by decide +kernel⟩

/-- The seven fields of a SUPERVISE record: mode, W, threshold, action, pulse length, seed, selector. -/
def sup (r : WorkRecord) : List Nat :=
  [r.byte 0 0, r.byte 0 1, r.byte 0 2, r.byte 1 0, r.byte 1 1, r.byte 1 2, r.byte 1 3].map BitVec.toNat

theorem test_meets_SuperviseTaken :
    (∀ body, Found (fd live 0x50 body) .supervise (rc 0x50 body)) ∧
    sup (rc 0x50 [0x00010203, 0x00010001]) = [3, 2, 1, 1, 0, 1, 0] ∧
    (sup (rc 0x50 [0x00010001, 0]) = [1, 0, 1, 0, 0, 0, 0] ∧ sup (rc 0x50 [0x0001FF02, 0]) = [2, 255, 1, 0, 0, 0, 0]) ∧
    (sup (rc 0x50 [0x00000201, 0]) = [1, 2, 0, 0, 0, 0, 0] ∧ sup (rc 0x50 [0x0010FE02, 0]) = [2, 254, 16, 0, 0, 0, 0]) ∧
    (sup (rc 0x50 [0x00010201, 0]) = [1, 2, 1, 0, 0, 0, 0] ∧ sup (rc 0x50 [0x000FFE02, 3]) = [2, 254, 15, 3, 0, 0, 0]) ∧
    (sup (rc 0x50 [0x00010201, 2]) = [1, 2, 1, 2, 0, 0, 0] ∧ sup (rc 0x50 [0x00010201, 0x1002]) = [1, 2, 1, 2, 16, 0, 0]) ∧
    (sup (rc 0x50 [0x00010201, 1]) = [1, 2, 1, 1, 0, 0, 0] ∧ sup (rc 0x50 [0x00010201, 0x100F02]) = [1, 2, 1, 2, 15, 16, 0]) ∧
    sup (rc 0x50 [0x00010201, 0x02010102]) = [1, 2, 1, 2, 1, 1, 2] ∧
    sup (rc 0x50 [0, 0]) = [0, 0, 0, 0, 0, 0, 0] ∧
    (sup (rc 0x50 [0x00010201, 0x00010001]) = [1, 2, 1, 1, 0, 1, 0] ∧
      sup (rc 0x50 [0x000FFE02, 0x010F0F02]) = [2, 254, 15, 2, 15, 15, 1]) :=
  ⟨fun _ => found_fd _ _ _ _ rfl rfl, by decide +kernel⟩

/-- `live` with supervision in force. -/
def supervised (m : Mode) (ph : Phase) (index : Nat) : State :=
  { live with supervision := { mode := m, phase := ph, index := index, q := 9, threshold := 1, position := 63, advanceDue := true } }

theorem test_meets_PulseOffBadAndWindow :
    (∀ m ph i body, Found (fd (supervised m ph i) 0x51 body) .pulse (rc 0x51 body)) ∧ live.supervision.mode = .off ∧
    (let v := { (supervised .challenge .first 3).supervision with bad := true }
     v.mode ≠ .off ∧ v.bad = true) ∧
    (let v := (supervised .window .first 3).supervision
     v.mode = .window ∧ v.bad = false ∧ v.phase = .first) ∧
    (let v := (supervised .window .second 3).supervision
     v.mode = .window ∧ v.bad = false ∧ v.phase = .second) :=
  ⟨fun _ _ _ _ => found_fd _ _ _ _ rfl rfl, by decide +kernel⟩

theorem test_meets_PulseChallenge :
    (∀ m ph i body, Found (fd (supervised m ph i) 0x51 body) .pulse (rc 0x51 body)) ∧ (0 < 4 ∧ 3 < 4) ∧
    (let v := (supervised .challenge .first 3).supervision
     v.mode = .challenge ∧ v.bad = false ∧ v.phase = .first ∧ v.index ≠ 0 ∧ (rc 0x51 [0xC5]).byte 0 0 = response v.q v.index ∧
     (rc 0x51 [0xB4]).byte 0 0 ≠ response v.q v.index) ∧
    (let v := (supervised .challenge .first 0).supervision
     v.phase = .first ∧ v.index = 0) ∧
    (let v := (supervised .challenge .second 1).supervision
     v.phase = .second ∧ v.index ≠ 0) ∧
    (let v := (supervised .challenge .second 0).supervision
     v.phase = .second ∧ v.index = 0 ∧ (rc 0x51 [0x96]).byte 0 0 = response v.q 0 ∧ (rc 0x51 [0x97]).byte 0 0 ≠ response v.q 0) ∧
    (let v := { (supervised .challenge .second 0).supervision with position := 127 }
     v.advanceDue = true ∧ v.period * 64 ≤ v.position + 1) :=
  ⟨fun _ _ _ _ => found_fd _ _ _ _ rfl rfl, by decide +kernel⟩

theorem test_meets_FallbackRecordsTaken :
    (∀ s code body k, s.regs.poreset = false → kindOf code = some k → Found (fd s code body) k (rc code body)) ∧
    full.supervision.fallback = true ∧ live.supervision.fallback = false ∧ 32 < ((rc 0x52 [33]).byte 0 0).toNat ∧
    (((rc 0x52 [32]).byte 0 0).toNat ≤ 32 ∧ (rc 0x52 [32]).body.length < 1 + ((rc 0x52 [32]).byte 0 0).toNat) ∧
    (let r := rc 0x52 [2, 0x00050400, 0x1F030177]
     1 + (r.byte 0 0).toNat ≤ r.body.length ∧ ([(0 : SlotIndex), 119].Nodup) ∧
     parseFallback (r.word 1) = .ok { target := 0, source := .const 5 } ∧
     parseFallback (r.word 2) = .ok { target := 119, source := .slot 119 }) ∧
    (let r := rc 0x52 [2, 0x00050400, 0x00000200]
     ([] : List FallbackEntry).length < (r.byte 0 0).toNat ∧ 1 < (r.byte 0 0).toNat ∧ 1 + (r.byte 0 0).toNat ≤ r.body.length ∧
     parseFallback (r.word 1) = .ok { target := 0, source := .const 5 } ∧ parseFallback (r.word 2) = .error .badField ∧
     parseFallback 0 = .ok { target := 0, source := .none } ∧ (0 : SlotIndex) ∈ [(0 : SlotIndex)]) ∧
    (119 < (wordByte 120 0).toNat ∧ (wordByte 119 0).toNat = (119 : SlotIndex).val ∧ (wordByte 0x500 1).toNat = 5 ∧
      3 < (wordByte 0x40100 2).toNat ∧ (wordByte 0x1000100 3).toNat < 2 ∧ 31 < (wordByte 0x20000100 3).toNat ∧
      7 < (wordByte 0x80300 2).toNat ∧ (wordByte 0x70300 2).toNat = (7 : GroupNo).val ∧ (wordByte 0x70300 1).toNat = 3) ∧
    ((rc 0x53 [0]).byte 0 0 ≠ 1 ∧ (rc 0x53 [3]).byte 0 0 ≠ 2 ∧ (rc 0x53 [1]).byte 0 0 = 1 ∧ (rc 0x53 [2]).byte 0 0 = 2) ∧
    live.switch.slot = none :=
  ⟨fun _ _ _ _ h k => found_fd _ _ _ _ h k, by decide +kernel, by decide +kernel, by decide +kernel, by decide +kernel,
    ⟨by decide +kernel, by decide +kernel, rfl, rfl⟩,
    ⟨by decide +kernel, by decide +kernel, by decide +kernel, rfl, rfl, rfl, by decide⟩, by decide +kernel, by decide +kernel, by decide +kernel⟩

/-! ### Boundaries -/

/-- `live` with the switch's work of a boundary due, and a change in the pending-change slot. -/
def due (change : Option Change) (overlay : Bool) : State :=
  { live with
    switch := { live.switch with
      formDue := true, sourcesDue := true, changeDue := change.isSome, overlayDue := overlay, overlayOrder := overlay
      slot := change.map fun c => { held := listener, change := c } }
    supervision := { table := [{ target := 0, source := .none }, { target := 119, source := .const 1 }] } }

theorem test_meets_EdgeMakesWorkDue :
    live.regs.poreset = false ∧
    (let s := lined 0 { line := .linked, peer := 2, rx := { status := .aligned, latest := some idleFrame } }
     let u := allPorts.foldl State.settleLine ({ s with bus := {} } : State).settle
     u.lines[(0 : Port)].rx.status = .aligned ∧ u.lines[(0 : Port)].loop = false ∧
     u.lines[(0 : Port)].rx.latest = some idleFrame ∧ u.lines[(1 : Port)].rx.status ≠ .aligned) ∧
    (let s := lined 1 { line := .linked, rx := { status := .aligned } }
     let u := allPorts.foldl State.settleLine ({ s with bus := {} } : State).settle
     u.lines[(1 : Port)].rx.status = .aligned ∧ u.lines[(1 : Port)].loop = false ∧ u.lines[(1 : Port)].rx.latest = none) ∧
    (let s := lined 2 { line := .linked, loop := true, tx := { line := .linked, loop := true }, rx := { status := .aligned } }
     let u := allPorts.foldl State.settleLine ({ s with bus := {} } : State).settle
     u.lines[(2 : Port)].rx.status = .aligned ∧ u.lines[(2 : Port)].loop = true ∧ u.lines[(2 : Port)].tx.loop = true ∧
     u.lines[(2 : Port)].loopArrived = true ∧ (u.sentFrame 2).isSome = true) := by decide +kernel

/-- The edge after frame 63: the count of a held PROBE and of an asserted RESET_OUT and a waiting stream's exchange are due, an
exchange still open is late; at the edge after frame 0 none of the three is due. -/
theorem test_edge_marks_block_counts :
    let s (number : Fin 64) : State :=
      { live.onStream 3 fun _ => { desc := some { feed with status := .muted, accesses := [.resume false] } } with
        timer := { number := number }
        router := { live.router with probes := [{ held := listener, target := 2, serial := 7, blocks := 5 }] }
        supervision := { resetOut := some 3 } }
    let marks (t : State) := (t.router.probes.map fun e => e.tickDue, t.supervision.resetTick,
      t.streams[(3 : StreamNo)].desc.map fun d => (d.resumeDue, d.accesses))
    marks (after (.frameBoundary true [] []) (s 63)) = ([true], true, some (true, [.resume true])) ∧
    marks (after (.frameBoundary true [] []) (s 0)) = ([false], false, some (false, [.resume true])) := by decide +kernel

/-- `live` with its octets of the boundary judged: the one slot heard on port 0 is loud. -/
def heard : State :=
  { live with activity := { slots := live.activity.slots.set 0 { loud := 5 }, counted := live.activity.counted.set 0 true } }

/-- 04 R78, 02 R29: a PORT_SETUP at the boundary takes the boundary's loud octets back, one between two boundaries does not. -/
theorem test_take_between_boundaries_keeps_the_count :
    let passed := after (.frameBoundary false [.passed] []) heard
    (heard.unsee 0).activity.slots[(0 : SlotIndex)].loud = 4 ∧ (passed.unsee 0).activity.slots[(0 : SlotIndex)].loud = 5 ∧
    passed.timer.passed = true := by decide +kernel

theorem test_meets_OctetsFormedAndSourcesRead :
    (let s := due none false
     s.regs.poreset = false ∧ s.switch.formDue = true ∧ s.switch.changeDue = false ∧ s.switch.overlayDue = false ∧
     s.switch.map[(119 : SlotIndex)].source = .none ∧ s.switch.sourcesDue = true) ∧
    (let s := { due none false with switch := { (due none false).switch with formDue := false } }
     s.switch.formDue = false ∧ s.switch.sourcesDue = true ∧ (∀ n : StreamNo, s.streams[n].frameDue = false) ∧
     s.groups[(0 : GroupNo)].current = none) ∧
    (∃ t, exec .scanStep scanning = .next t ∧ t.groups[(7 : GroupNo)].current = some 1 ∧
      t.groups[(7 : GroupNo)].members[1]? = some { source := .slot 1, dwell := 3 }) ∧
    (∃ t, exec .scanStep { scanning with timer := { scanDue := true } } = .next t ∧
      t.groups[(7 : GroupNo)].current = some 0 ∧ t.groups[(7 : GroupNo)].members[0]? = some { source := .slot 0, dwell := 2 }) ∧
    (({ loop := true } : Transmit).loop = true ∧ live.lines[(0 : Port)].tx.loop = false ∧ live.lines[(3 : Port)].tx.line = .off ∧ live.lines[(0 : Port)].tx.line ≠ .off ∧ SlotIndex.port 29 = 0) ∧
    (let ahead : Switch := { scanning.switch with scanAhead := Vector.replicate 8 true }
     scanning.switch.scanAhead[(7 : GroupNo)] = false ∧ ahead.scanAhead[(7 : GroupNo)] = true ∧
     scanning.groups[(7 : GroupNo)].current = some 1 ∧
     scanning.groups[(7 : GroupNo)].members[1]? = some { source := .slot 1, dwell := 3 } ∧
     scanning.groups[(0 : GroupNo)].current = none) :=
  ⟨by decide +kernel, by decide +kernel, ⟨_, rfl, by decide +kernel⟩, ⟨_, rfl, by decide +kernel⟩, by decide +kernel, by decide +kernel⟩

/-- 05 R98, R103: the switch has read group 7 ahead of its due scan step; a HOLD taken before that step gives the frame the
member current before it, and the step leaves the group alone. -/
theorem test_hold_after_reading_ahead :
    let s : State := { fd scanning 0x22 [0x107] with
      timer := { scanDue := true }
      switch := { scanning.switch with
        scanFrom := scanning.switch.scanFrom.set 7 (some 0), scanAhead := Vector.replicate 8 true } }
    let held := after .scanControlHold s
    held.switch.scanFrom[(7 : GroupNo)] = some 1 ∧ (after .scanStep held).groups[(7 : GroupNo)].current = some 1 ∧
    (after .scanStep held).switch.scanFrom[(7 : GroupNo)] = some 1 := by decide +kernel

/-- 05 R100: a RELEASE of group 7, which is not held, leaves what the switch has read ahead of the step. -/
theorem test_release_of_a_group_not_held :
    let s : State := { fd scanning 0x22 [0x207] with
      timer := { scanDue := true }
      switch := { scanning.switch with
        scanFrom := scanning.switch.scanFrom.set 7 (some 0), scanAhead := Vector.replicate 8 true } }
    let released := after .scanControlRelease s
    released.switch = s.switch ∧ released.groups = s.groups ∧
    (after .scanStep released).switch.scanFrom[(7 : GroupNo)] = some 0 ∧
    (after .scanStep released).groups[(7 : GroupNo)].current = some 0 := by decide +kernel

/-- An edit of slot index 0 that puts the idle constant with tag 1, as its two words. -/
def edit : Word × Word := (0x00010200, 0x01000504)

/-- 03 R60: an edit whose target named stream 3 and that puts it again loses one reference and gains one. -/
theorem test_references_of_an_edit_list :
    let s := live.onStream 3 fun _ => { desc := some feed, refs := 1 }
    let w := (s.onSwitch fun w => { w with map := w.map.set 0 { source := .stream 3, tag := 1 } })
    let es : List Edit := [{ target := 0, put := true, cls := .normal, override := false, source := .stream 3, tag := 1 }]
    (es.countP fun e => w.switch.map[e.target].source == .stream 3) = 1 ∧ 1 ≤ w.streams[(3 : StreamNo)].refs ∧
    w.judgeEdits 1 [] [(0x00010200, 0x01000302)] = .ok es ∧
    (es.foldl State.applyEdit w).streams[(3 : StreamNo)].refs = 1 := by decide +kernel

theorem test_meets_EditListCarriedOut :
    (let s := due (some (.editList [edit])) false
     s.regs.poreset = false ∧ s.switch.formDue = true ∧ s.switch.changeDue = true ∧ s.switch.overlayDue = false ∧
     s.switch.slot = some { held := listener, change := .editList [edit] }) ∧
    parseEdit (0, 0) = .error .badSlot ∧
    parseEdit edit = .ok { target := 0, put := true, cls := .normal, override := false, source := .const 5, tag := 1 } ∧
    (due none false).judgeEdits 1 [] [edit] =
      .ok [{ target := 0, put := true, cls := .normal, override := false, source := .const 5, tag := 1 }] ∧
    (due none false).judgeEdits 1 [] [edit, edit] = .error (.duplicate, 2) ∧
    (due none false).judgeEdit [] edit =
      .ok { target := 0, put := true, cls := .normal, override := false, source := .const 5, tag := 1 } ∧
    (due none false).judgeEdit [0] edit = .error .duplicate ∧
    parseEdit (0x00010200, 0x01000302) =
      .ok { target := 0, put := true, cls := .normal, override := false, source := .stream 3, tag := 1 } ∧
    live.isOpenFeed 3 = false ∧
    ({ marked := true } : RouteEntry).marked = true ∧ ({ cls := .urgent } : RouteEntry).cls = .urgent ∧
    (({ tag := 2 } : RouteEntry).tag ≠ 0 ∧ ({ tag := 2 } : RouteEntry).tag ≠ (1 : Octet)) ∧
    (3 < (wordByte 4 0).toNat ∧ (wordByte 0x0100 1).toNat < 2 ∧ 31 < (wordByte 0x2000 1).toNat ∧
      (wordByte 0x1F03 0).toNat = (SlotIndex.port 119).val ∧ (wordByte 0x1F03 1).toNat = (SlotIndex.slot 119).val) ∧
    ((wordByte 0x30000 2).toNat ≠ 1 ∧ (wordByte 0x30000 2).toNat ≠ 2 ∧ (wordByte 0x20000 2).toNat = 2 ∧
      (wordByte 0x10000 2).toNat = 1) ∧
    (4 < (wordByte 5 0).toNat ∧ (wordByte 4 0).toNat = 4 ∧ 15 < (wordByte 0x1002 1).toNat ∧
      (wordByte 0x0F02 1).toNat = (15 : StreamNo).val ∧ 7 < (wordByte 0x0803 1).toNat ∧
      (wordByte 0x0703 1).toNat = (7 : GroupNo).val) :=
  ⟨by decide +kernel, rfl, rfl, rfl, rfl, rfl, rfl, rfl, rfl, rfl, rfl, by decide, by decide +kernel⟩

theorem test_meets_DropTagOverlayRecovery :
    (let s := due (some (.dropTag 1)) false
     s.regs.poreset = false ∧ s.switch.formDue = true ∧ s.switch.changeDue = true ∧ s.switch.overlayDue = false ∧
     s.switch.slot = some { held := listener, change := .dropTag 1 }) ∧
    (let s := due none true
     s.switch.changeDue = false ∧ s.switch.overlayDue = true ∧ (s.supervision.table.map fun e => e.target).Nodup) ∧
    (let s := due (some .recover) true
     s.switch.changeDue = true ∧ s.switch.slot = some { held := listener, change := .recover } ∧
     (s.switch.displaced.map fun d => d.target).Nodup) ∧
    (let s := due (some (.dropTag 1)) true
     s.switch.formDue = true ∧ s.switch.changeDue = true ∧ s.switch.overlayDue = true ∧
     s.switch.slot = some { held := listener, change := .dropTag 1 } ∧ Change.dropTag 1 ≠ .recover) := by decide +kernel

/-! ### Port lines -/

theorem test_meets_ReceiverCountsMarks :
    live.regs.poreset = false ∧
    (let l : LineUnit := { line := .quiet, rx := { status := .hunting } }
     l.loop = false ∧ l.rx.status = .hunting ∧ l.rx.candidate = none ∧ l.rx.markCount < 4 ∧ (lined 1 l).lines[(1 : Port)] = l) ∧
    (let r : PortReceiver := { status := .hunting, candidate := some 255, markCount := 3 }
     r.status = .hunting ∧ r.candidate = some 255 ∧ r.candidate ≠ none ∧ r.markCount < 4) ∧
    live.lines[(1 : Port)].rx.status = .stopped ∧
    (let r : PortReceiver := { status := .aligned, missCount := 2 }
     r.status = .aligned ∧ r.missCount < 3) ∧
    ({ loop := true } : LineUnit).loop = true ∧
    (let l : LineUnit := { line := .quiet, loop := true, tx := { line := .quiet, loop := true }, rx := { status := .hunting } }
     (lined 1 l).lines[(1 : Port)] = l ∧ l.tx.loop = true ∧ l.tx.line ≠ .off ∧ l.loopArrived = false ∧
     l.rx.status = .hunting ∧ l.rx.candidate = none ∧ l.rx.markCount < 4 ∧ ({ l with loopArrived := true }).loopArrived ≠ false ∧
     (let counted := after (.candidateMark 1 9) (lined 1 l)
      counted.lines[(1 : Port)].rx.candidate = some 9 ∧ counted.lines[(1 : Port)].rx.markCount = 1 ∧
      after (.candidateMark 1 9) counted = counted)) ∧
    (let r : PortReceiver := { status := .hunting, candidate := some 9, markCount := 3 }
     r.status ≠ .stopped ∧ r.candidate ≠ none ∧ r.candidate = some 9 ∧ r.markCount < 4) ∧
    (let l : LineUnit := { line := .quiet, rx := { status := .hunting, markCount := 4 } }
     l.rx.status = .hunting ∧ 4 ≤ l.rx.markCount ∧ l.line = .quiet ∧ LineState.lost ≠ .quiet) ∧
    (let l : LineUnit := { line := .linked, rx := { status := .aligned, missCount := 3 } }
     l.rx.status = .aligned ∧ 3 ≤ l.rx.missCount ∧ l.line.counts = true ∧ LineState.lost.counts = false) := by decide +kernel

theorem test_meets_LineMovesByCountAndTimer :
    live.regs.poreset = false ∧
    (peerCode 0x7F = .wake ∧ peerCode 0xA0 = .ready ∧ peerCode 0xFF = .quiet ∧ peerCode 0x00 = .quiet) ∧
    (let l : LineUnit := { line := .awake, wakeCount := 8 }
     l.line.counts = true ∧ l.line = .awake ∧ 8 ≤ l.wakeCount ∧ (lined 1 l).lines[(1 : Port)] = l) ∧
    (peerCode 0x60 ≠ .quiet ∧ peerCode 0xA0 ≠ .quiet ∧ peerCode 0x40 = .quiet ∧
      ({ peerSeen := true } : LineUnit).peerSeen = true ∧ ({} : LineUnit).peerSeen = false) ∧
    (({ line := .awake, wakeCount := 7 } : LineUnit).wakeCount < 8 ∧ LineState.ready ≠ .awake) ∧
    (let l : LineUnit := { line := .linked, quietCount := 4 }
     l.line.counts = true ∧ l.line.runs = true ∧ 4 ≤ l.quietCount ∧ (3 : Nat) < 4 ∧ LineState.lost.counts = false) ∧
    (let l : LineUnit := { line := .ready, identifyTimer := some 256 }
     l.line = .ready ∧ l.identifyTimer = some 256 ∧ 256 ≤ 256 ∧ (255 : Nat) < 256) ∧
    (let l : LineUnit := { line := .lost, lostTimer := some 16 }
     l.line = .lost ∧ l.lostTimer = some 16 ∧ 16 ≤ 16 ∧ (15 : Nat) < 16) ∧
    (let q (o : Origin) : Queued := { msg := message .data, origin := o }
     (q (.send listener)).origin = .send listener ∧ (q .router).origin = .router ∧ (q .lineUnit).origin = .lineUnit ∧
     (q .router).msg.kind = .data ∧ (message .probe).kind ≠ .data) := by decide +kernel

/-- `live` with a message in the holding of port 0 that waits for the pool. -/
def holding (kind : MessageKind) (waited : Nat) : State :=
  { live with
    channels := live.channels.set 0 { holding := some (message kind) }
    router := { live.router with
      waits := live.router.waits.set 0 (some { on := .pool, waited := waited }), retryDue := live.router.retryDue.set 0 true } }

theorem test_meets_IdentifyCompletes :
    (let s := holding .identify 0
     s.regs.poreset = false ∧ s.channels[(0 : Port)].holding = some (message .identify) ∧ (message .identify).kind = .identify ∧
     s.lines[(0 : Port)].line = .linked ∧ (message .identify).source = s.lines[(0 : Port)].peer ∧
     (message .identify).source ≠ 3) ∧
    (1 ≤ (1 : Octet).toNat ∧ (254 : Octet).toNat ≤ 254 ∧ ¬ 1 ≤ (0 : Octet).toNat ∧ ¬ (255 : Octet).toNat ≤ 254) ∧
    (lined 0 { line := .ready }).lines[(0 : Port)].line = .ready := by decide +kernel

theorem test_meets_StatusWordsWritten :
    (let s := { lined 3 { statusDue := true } with
                  supervision := { wordDue := true }, activity := { imageDue := true, raiseAfter := true } }
     s.regs.poreset = false ∧ s.lines[(3 : Port)].statusDue = true ∧ s.walker.headerWritten = true ∧
     s.supervision.wordDue = true ∧ s.activity.imageNext = none ∧ s.activity.imageDue = true ∧
     s.lines[(0 : Port)].statusDue = false) ∧
    State.reset.walker.headerWritten = false ∧ (0 < 4 ∧ 3 < 4) ∧ (0 < 32 ∧ 31 < 32) ∧
    (live.supervision.wordDue = false ∧ live.activity.imageNext = none ∧ live.activity.imageDue = false) ∧
    (let s := { live with activity := { imageNext := some 3, raiseNow := true } }
     s.walker.headerWritten = true ∧ s.activity.imageNext = some 3 ∧ 3 < 4 ∧ 4 ≤ 3 + 1 ∧ 0 + 3 < 4 ∧ 0 < 1 ∧ 3 + 0 < 4) := by decide +kernel

theorem test_meets_LoudAndClassified :
    (let s := { live with activity := { judgeDue := true } }
     s.regs.poreset = false ∧ s.activity.judgeDue = true ∧ s.activity.classifyDue = false) ∧
    (let s : State := { live with timer := { blockDue := true }, activity := { classifyDue := true, judgeDue := true, onset := 8 }
                                  supervision := { resetOut := some 2, resetTick := true } }
     s.timer.blockDue = true ∧ s.activity.classifyDue = true ∧ s.activity.judgeDue = true ∧
     (∀ n : StreamNo, s.streams[n].desc = none) ∧ s.activity.onset ≤ 8 ∧ 7 < s.activity.onset ∧
     s.supervision.resetOut = some 2 ∧ s.supervision.resetTick = true ∧ live.supervision.resetOut = none ∧
     s.walker.headerWritten = true ∧ State.reset.walker.headerWritten = false) ∧
    (let e : SlotActivity := { loud := 8 }
     let a : Activity := { slots := Vector.replicate 120 e, watch := 1 }
     a.onset ≤ e.loud ∧ e.active = false ∧ a.changed 0 = true ∧ a.watch.getLsbD 0 = true ∧
     ({ e with loud := 7 }).loud < a.onset ∧ ({ e with active := true, hang := 1 }).hang = 1) := by decide +kernel

theorem test_meets_ScanStepDue :
    (let s := { scanning with timer := { scanDue := true } }
     s.regs.poreset = false ∧ s.timer.scanDue = true ∧ s.groups[(7 : GroupNo)].hold = false ∧
     s.groups[(7 : GroupNo)].current = some 1 ∧ s.groups[(7 : GroupNo)].dwell ≤ 1 ∧ s.groups[(0 : GroupNo)].current = none) ∧
    (let g : ScanGroup := { members := [{ source := .slot 0, dwell := 2 }], current := some 0, dwell := 2 }
     2 ≤ g.dwell ∧ ¬ (g.skipSilent = true ∧ g.eligibleAt live.activity 0 = false) ∧
     ({ g with skipSilent := true }).eligibleAt live.activity 0 = false ∧ ({ g with hold := true }).hold = true ∧
     g.eligibleAt live.activity 0 = true) ∧
    live.timer.scanDue = false ∧ ({} : ScanGroup).current = none ∧ (∀ i, ({} : ScanGroup).eligibleAt live.activity i = false) ∧
    (let g := scanning.groups[(7 : GroupNo)]
     let place (i : Nat) := i % g.members.length
     g.current = some 1 ∧ 1 < g.members.length ∧ g.eligibleAt live.activity (place (1 + 1 + 1)) = true ∧
     (∀ e, e < 1 → g.eligibleAt live.activity (place (1 + 1 + e)) = false) ∧
     ({ g with current := some 2 }).eligibleAt live.activity (place (2 + 1 + 0)) = true ∧
     g.eligibleAt live.activity 0 = true ∧ place 0 = 0) :=
  ⟨by decide +kernel, by decide +kernel, rfl, rfl, fun _ => rfl, by decide +kernel⟩

/-! ### Streams -/

theorem test_meets_StreamFrameWork :
    (let d := { feed with dir := .tap 119, position := 3, buffer := [1, 2, 3] }
     let s := withDesc live 15 d
     s.regs.poreset = false ∧ s.streams[(15 : StreamNo)].frameDue = true ∧ s.streams[(15 : StreamNo)].desc = some d ∧
     d.dir = .tap 119 ∧ d.status = .opened ∧ d.finished = false ∧ (d.position + 1) % 4 = 0 ∧ d.buffer = [1, 2, 3] ∧
     (2 + 1) % 4 ≠ 0) ∧
    (let d := { feed with dir := .tap 0, status := .stalled }
     d.status ≠ .opened ∧ d.status ≠ .fault ∧ ¬ (d.resumeDue = true ∨ StreamAccess.resume false ∈ d.accesses) ∧
     ({ d with resumeDue := true }).resumeDue = true ∧ StreamAccess.resume false ∈ ({ d with accesses := [.resume false] }).accesses ∧
     ({ d with status := .fault }).status = .fault ∧ ({ d with status := .opened, finished := true }).finished = true) ∧
    (feed.dir = .feed ∧ feed.status = .opened ∧ feed.finished = false ∧ 7 + 1 = feed.len ∧ 3 + 1 ≠ feed.len ∧
      (3 + 1) % 4 = 0 ∧ (0 + 1) % 4 ≠ 0) ∧
    (let d := { feed with status := .muted, finished := true }
     d.status ≠ .opened ∧ d.finished = true) := by decide +kernel

theorem test_meets_HandoverServed :
    (let d := { feed with finished := true }
     let s := withDesc live 15 d
     s.regs.poreset = false ∧ s.streams[(15 : StreamNo)].desc = some d ∧ d.status = .opened ∧ d.finished = true ∧
     d.accesses = [] ∧ wordByte 0 1 = 0 ∧ wordByte 0x0100 1 ≠ 0 ∧
     (let t := after (.handover 15 (errorAfter 1)) s
      (t.streams[(15 : StreamNo)].desc.map fun d => d.status) = some .fault ∧ t.mem.read 0x2204 = 8)) ∧
    feed.finished = false ∧ ({ feed with accesses := [.resume false] }).accesses ≠ [] ∧ ({ feed with status := .fault }).status ≠ .opened := by
  decide +kernel

theorem test_meets_StreamAccessEnds :
    (let d := { feed with status := .muted, accesses := [.resume false] }
     let s := live.onStream 15 fun _ => { desc := some d }
     s.regs.poreset = false ∧ s.streams[(15 : StreamNo)].desc = some d ∧ d.accesses = .resume false :: [] ∧ d.status = .muted ∧
     d.dir = .feed ∧ s.streams[(15 : StreamNo)].frameDue = false ∧ wordByte 0 0 = 0 ∧ wordByte 1 0 ≠ 0) ∧
    (let d := { feed with status := .stalled, dir := .tap 0, accesses := [.resume false] }
     let s := withDesc live 15 d
     s.streams[(15 : StreamNo)].desc = some d ∧ d.status = .stalled ∧ d.dir = .tap 0 ∧ d.dir ≠ .feed ∧
     s.streams[(15 : StreamNo)].frameDue = true ∧ 8 ≤ d.len ∧ ({ d with accesses := [.resume true] }).accesses = .resume true :: []) ∧
    ({ feed with accesses := [.putWord 0x2000 1, .getWord 0x2000 0] }).accesses = .putWord 0x2000 1 :: [.getWord 0x2000 0] ∧
    (let d := { feed with accesses := [.getWord 0x2000 0] }
     (withDesc live 15 d).streams[(15 : StreamNo)].desc = some d ∧ d.accesses ≠ [] ∧ d.dir = .feed ∧
     (withDesc live 15 d).streams[(15 : StreamNo)].frameDue = true) ∧
    (let d := { feed with status := .stalled, dir := .tap 0, resumeDue := true }
     let s := { withDesc live 15 d with timer := { blockDue := true } }
     s.regs.poreset = false ∧ s.timer.blockDue = true ∧ s.streams[(15 : StreamNo)].desc = some d ∧ d.resumeDue = true ∧
     d.status = .stalled ∧ d.dir = .tap 0 ∧ d.accesses = [] ∧ (15 : StreamNo) ∈ [(15 : StreamNo)] ∧
     ∀ i : StreamNo, i ≠ 15 → s.streams[i].desc = none) ∧
    (let d := { feed with status := .muted, resumeDue := true }
     let s := { withDesc live 15 d with timer := { blockDue := true } }
     let given := { s with mem := s.mem.writeWord (s.busAddress d.block) 0x00010101 }
     s.streams[(15 : StreamNo)].desc = some d ∧ d.resumeDue = true ∧ d.status = .muted ∧ d.dir = .feed ∧ d.accesses = [] ∧
     wordByte (s.mem.readWord (s.busAddress d.block)) 0 = 0 ∧
     wordByte (given.mem.readWord (given.busAddress d.block)) 0 ≠ 0 ∧
     ((after (.blockBoundary [] []) s).streams[(15 : StreamNo)].desc.map fun d => d.status) = some .opened ∧
     ((after (.blockBoundary [] []) given).streams[(15 : StreamNo)].desc.map fun d => d.status) = some .muted) := by
  decide +kernel

/-! ### Periods, channels, router -/

theorem test_meets_PeriodsAndTrip :
    (let v := (supervised .window .first 3).supervision
     live.regs.poreset = false ∧ v.advanceDue = true ∧ v.position + 1 = v.period * 32) ∧
    (let v := { (supervised .window .first 3).supervision with position := 62 }
     v.position + 1 ≠ v.period * 32 ∧ v.position + 1 < v.period * 64) ∧
    (let v := { (supervised .window .second 3).supervision with position := 127 }
     v.period * 64 ≤ v.position + 1 ∧ min 15 (v.errorCount + 1) ≠ v.errorCount ∧ min 15 (v.errorCount + 1) = v.threshold ∧
     v.fallback = false ∧ min 15 (15 + 1) = 15) ∧
    (let v : Supervision := { resetOut := some 1, resetTick := true }
     v.resetOut = some 1 ∧ v.resetTick = true ∧ 1 ≤ 1 ∧ 2 ≤ 2 ∧ live.supervision.advanceDue = false) := by decide +kernel

/-- `live` with what port 0 presents: a byte and a line-state octet. -/
def presents (byte line : Octet) (c : Channel) : State :=
  { live with
    lines := live.lines.set 0 { live.lines[(0 : Port)] with rx := { presented := (idleFrame.set 0 byte).set 1 line } }
    channels := live.channels.set 0 c }

/-- A SEND's message in the queue or in transmission. -/
def sent : Queued := { msg := message .data, origin := .send listener }

theorem test_meets_ChannelSends :
    (let s := presents 0xFF 0xA0 { senderDue := true, queue := [sent] }
     s.regs.poreset = false ∧ s.lines[(0 : Port)].line.runs = true ∧ s.channels[(0 : Port)].senderDue = true ∧
     s.channels[(0 : Port)].sender = .idle ∧ s.channels[(0 : Port)].queue = sent :: [] ∧ (s.peer 0).ready = true ∧
     (s.peer 0).halt = false) ∧
    ((presents 0xFF 0x60 {}).peer 0).ready = false ∧ ((presents 0xFF 0xA1 {}).peer 0).halt = true ∧
    (let c : Channel := { sender := .offering, inFlight := some { item := sent, index := 5 }, offer := true, takeTimer := some 64 }
     let s := presents 0xFF 0xA2 c
     c.sender = .offering ∧ c.inFlight = some { item := sent, index := 5 } ∧ (s.peer 0).take = c.offer ∧
     sent.msg.size = 5 + 1 ∧ 4 + 1 < sent.msg.size ∧ sent.origin = .send listener ∧ c.queue = [] ∧ c.takeTimer = some 64 ∧
     64 ≤ 64 ∧ 63 < 64 ∧ ((presents 0xFF 0xA0 c).peer 0).take ≠ c.offer) ∧
    (let c : Channel := { sender := .quitting, quitTimer := some 2, queue := [sent] }
     (presents 0xFF 0xA1 { c with senderDue := true }).channels[(0 : Port)].senderDue = true ∧ c.sender = .quitting ∧ c.quitTimer = some 2 ∧ 2 ≤ 2 ∧ 1 < 2 ∧ c.queue = sent :: [] ∧ ({ c with queue := [] }).queue = []) ∧
    ((message .data).payload.length ≤ 48 ∧ ({ sender := .offering } : Channel).sender = .offering ∧
      ({} : Channel).sender ≠ .offering ∧ ({ sent with origin := .router } : Queued).origin = .router ∧
      OutcomeCode.peerHalt ≠ .done ∧ sent.msg.kind = .data ∧ (message .probe).kind ≠ .data ∧
      ({ sent with origin := .lineUnit } : Queued).origin = .lineUnit) := by decide +kernel

theorem test_meets_ChannelReceives :
    (([] : List Octet).length < 4 ∧ [0, 0].length = 2 ∧ ((0 : Octet).setWidth 4 : BitVec 4).toNat = 0 ∧
      5 < ((0xF6 : Octet).setWidth 4 : BitVec 4).toNat ∧ ((0x31 : Octet).setWidth 4 : BitVec 4).toNat = 1 ∧
      48 < (49 : Octet).toNat ∧ (48 : Octet).toNat ≤ 48) ∧
    (let part : List Octet := [1, 2, 0x32, 1]
     4 ≤ part.length ∧ part.length < 4 + (part.getD 3 0).toNat) ∧
    (let part : List Octet := [1, 2, 0x32, 0]
     4 ≤ part.length ∧ 4 + (part.getD 3 0).toNat ≤ part.length ∧ byteSum (part ++ [0xCB]) = 0 ∧ byteSum (part ++ [0xCC]) ≠ 0) ∧
    (let s := presents 0x01 0xB0 { receiverDue := true }
     s.regs.poreset = false ∧ s.lines[(0 : Port)].line.runs = true ∧ s.channels[(0 : Port)].receiverDue = true ∧
     (s.peer 0).ready = true ∧ (s.peer 0).quit = false ∧ (s.peer 0).offer ≠ s.channels[(0 : Port)].take ∧
     s.channels[(0 : Port)].receiver = .idle ∧ s.channels[(0 : Port)].holding = none ∧ (s.peer 0).last = false) ∧
    ((presents 0x01 0xA4 {}).peer 0).quit = true ∧ ((presents 0x01 0xB8 {}).peer 0).last = true ∧
    ((presents 0x01 0x60 {}).peer 0).ready = false ∧ ((presents 0x01 0xA0 {}).peer 0).offer = ({} : Channel).take ∧
    (holding .data 0).channels[(0 : Port)].holding = some (message .data) ∧
    (let c : Channel := { receiver := .receiving, partialMsg := [1, 2, 0x32, 0], stallTimer := some 64 }
     let s := presents 0xCB 0xB8 c
     c.receiver = .receiving ∧ judgeByte (s.lines[(0 : Port)].line == .ready) c.partialMsg (s.peer 0).byte (s.peer 0).last = .complete ∧
     messageOf (c.partialMsg ++ [(s.peer 0).byte]) = some { dest := 1, source := 2, hop := 3, kind := .data, payload := [] } ∧
     s.router.node = 1 ∧ full.router.listens = listener :: List.replicate 7 listener ∧
     c.stallTimer = some 64 ∧ 64 ≤ 64 ∧ 63 < 64) ∧
    MessageKind.data ≠ .identify ∧
    (messageOf [0, 2, 0x01, 0, 0xFD] = some { dest := 0, source := 2, hop := 0, kind := .identify, payload := [] }) ∧
    (judgeByte false [1, 2] 0x37 false = .reject ∧ judgeByte false [1, 2] 0x32 false = .accept) ∧
    (let c : Channel := { receiver := .halting, halt := true, haltTimer := some 2 }
     c.receiver = .halting ∧ c.haltTimer = some 2 ∧ 2 ≤ 2 ∧ 1 < 2 ∧ ((presents 0x01 0xA4 c).peer 0).quit = true ∧
     (let held := { c with holding := some (message .data) }
      held.holding = some (message .data) ∧ ((presents 0x01 0xB0 held).peer 0).offer ≠ held.take ∧
      ((presents 0x01 0xB0 held).peer 0).quit = false ∧ ((presents 0x01 0xB0 held).peer 0).ready = true) ∧
     c.holding = none ∧ ((presents 0x01 0xB8 c).peer 0).last = true ∧ ((presents 0x01 0xB8 c).peer 0).offer ≠ c.take ∧
     ((after (.haltTimerExpiry 0) (presents 0x01 0xB0 c)).channels[(0 : Port)].receiver,
       (after (.haltTimerExpiry 0) (presents 0x01 0xB8 c)).channels[(0 : Port)].receiver) = (.receiving, .halting)) ∧
    (1 ≤ (([1, 2, 0x31, 0] : List Octet).getD 2 0).toNat % 16 ∧ (([1, 2, 0x35, 0] : List Octet).getD 2 0).toNat % 16 ≤ 5) := by
  decide +kernel

theorem test_meets_HoldingWaitsAndNoReply :
    (let s := holding .data 62
     s.regs.poreset = false ∧ s.router.waits[(0 : Port)] = some { on := .pool, waited := 62 } ∧
     s.channels[(0 : Port)].holding = some (message .data) ∧ s.router.retryDue[(0 : Port)] = true ∧
     (message .data).kind = .data ∧ (message .returned).kind = .returned ∧ (message .data).dest = s.router.node ∧ 62 + 1 < 64 ∧
     64 ≤ 63 + 1 ∧ s.router.listens = [] ∧ full.router.listens = listener :: List.replicate 7 listener ∧
     s.route (message .data).source = .out 0 ∧ s.queueRoom 0 = true) ∧
    ((holding .data 62).routeInbound 0 (message .data) = (some .pool, holding .data 62) ∧
      (∃ t, (holding .probe 63).routeInbound 0 (message .probe) = (none, t))) ∧
    (let e : ProbeEntry := { held := listener, target := 2, serial := 0, blocks := 1, tickDue := true }
     let f := { e with blocks := 2 }
     e.tickDue = true ∧ e.blocks ≤ 1 ∧ 2 ≤ f.blocks ∧ ({ e with tickDue := false }).tickDue = false ∧
     [f, e] = [f] ++ e :: []) :=
  ⟨by decide +kernel, ⟨rfl, _, rfl⟩, by decide +kernel⟩

/-! ### Invariants -/

theorem test_meets_MemoryStaysCanonical : Memory.wf (chain 0x1000 1).mem = true ∧ ∃ t, step (chain 0x1000 1) = .next t :=
  ⟨by decide +kernel, _, rfl⟩

theorem test_meets_StateStaysInRange : InRange full ∧ ∃ t, step full = .next t := by
  refine ⟨⟨by decide +kernel, by decide +kernel, by decide +kernel, ?_, by decide +kernel⟩, _, rfl⟩
  have h : ∀ g : GroupNo, full.groups[g] = {} := by decide +kernel
  intro g
  rw [h g]
  exact ⟨by decide, fun m hm => absurd hm List.not_mem_nil, fun i (hi : none = some i) => nomatch hi⟩

theorem test_meets_TakesKeepTheirRequest :
    (let s : State := { live with
       retire := [.held 0x1000 true, .held 0x3000 false], walker := { live.walker with walk := .taking, takes := 3 } }
     TakeHasItsRequest s ∧ ∃ t, step s = .next t) :=
  ⟨⟨by decide, fun _ => by decide, by decide⟩, _, rfl⟩

theorem test_meets_ReferencesStayCounted : ReferencesCounted live ∧ ∃ t, step live = .next t := by
  refine ⟨⟨?_, by decide +kernel, fun e he => (by cases he), by decide +kernel, fun d hd => (by cases hd), ?_, by decide +kernel,
    by decide +kernel, by decide +kernel⟩, _, rfl⟩
  · have h : ∀ n : StreamNo, live.streams[n].refs = 0 ∧ references live n = 0 := by decide +kernel
    intro n
    rw [(h n).1, (h n).2]
    exact ⟨rfl, fun h => absurd h (by decide)⟩
  · have h : ∀ k : SlotIndex, live.switch.map[k].marked = false := by decide +kernel
    intro k hk
    rw [h k] at hk
    cases hk

/-! ### Single steps on values of the spec -/

/-- 09 R167: the responses for Q = 9. -/
theorem test_responses_for_nine : (response 9 3, response 9 2, response 9 1, response 9 0) = (0xC5, 0xB4, 0xA7, 0x96) := by decide

/-- 10: IDENT, and CONTROL after RUN. -/
theorem test_registers_after_run :
    (State.reset.readRegister 0, (after (.run 1 []) State.reset).readRegister 4, State.reset.readRegister 8) = (0x52430001, 1, 0) := by
  decide +kernel

/-- 01 R16: the outcome word, the state byte and the retire count word of the first retirement. -/
theorem test_first_retirement :
    let s := after (.retirement []) (after .nop (fd live 0x01 []))
    (s.mem.readWord 0x100C, s.mem.read 0x1000, s.mem.readWord 8, s.mem.readWord 4) = (0x00010000, 4, 1, 0x1000) := by decide +kernel

/-- 06 R111: OPEN_STREAM of a FEED whose half A is PART's. -/
theorem test_open_stream_writes_its_status_block :
    let s := after (.openStream []) (fd live 0x30 [0x1020F, 0x00080000, 0x2000, 0x2100, 0x2200])
    (s.mem.readWord 0x2200, s.mem.readWord 0x2204) = (0x00010000, 0x00FF0000) := by decide +kernel

/-- 02 R45: the port status word of a LINKED port with peer 2. -/
theorem test_port_status_word :
    let s := after (.portStatusWrite 0 []) { live with lines := live.lines.set 0 { line := .linked, peer := 2, statusDue := true } }
    s.mem.readWord 0x10 = 0x00000204 := by decide +kernel

/-- 03 3.6: words of the map image. -/
theorem test_map_image_words :
    (({ source := .slot 119, tag := 9, cls := .urgent } : RouteEntry).imageWord, ({ source := .const 5, marked := true } : RouteEntry).imageWord,
      ({ source := .stream 15 } : RouteEntry).imageWord, ({} : RouteEntry).imageWord) = (0x091F0341, 0x00000584, 0x00000F02, 0) := by
  decide

/-- 07 7.1: the bytes of an IDENTIFY of node 2 sum to zero. -/
theorem test_message_bytes :
    ({ dest := 0, source := 2, hop := 0, kind := .identify, payload := [] } : Message).bytes = [0, 2, 1, 0, 0xFD] := by decide

/-- 02 R27: the first edge after reset begins frame 0, the edge after frame 63 again. -/
theorem test_frame_numbers : (({} : FrameTimer).edge.number, ({} : FrameTimer).edge.blockDue) = (0, true) := by decide

end Sys2Proof.Tests
end

section
/-! PROOFS. What the walker and the retire path can do at a halting event and at the end of a take, and the causes they
keep pending; then the statements on HELD writes and on NOP. -/

namespace Sys2Proof.Machine

/-! ### Halting events (01 R17 to R20) -/

theorem State.enterHalted_eq (s : State) (reason : HaltReason) :
    s.enterHalted reason = withCause { s with walker := halted s.walker reason } .chain := rfl

/-- While a take is in progress a halting event waits for its end, and the first one's reason stands. -/
theorem State.haltEvent_taking (s : State) (reason : HaltReason) (hw : s.walker.walk = .taking)
    (hs : s.walker.status ≠ .halted) :
    s.haltEvent reason =
      { s with walker := { s.walker with haltPending := some (s.walker.haltPending.getD reason) } } := by
  rw [State.haltEvent, if_neg hs, if_pos hw]
  cases hp : s.walker.haltPending <;> simp [State.onWalker, hp]

theorem State.busHalt_taking (s : State) (hw : s.walker.walk = .taking) (hs : s.walker.status ≠ .halted) :
    s.busHalt = withCause
      { s with walker := { s.walker with haltPending := some (s.walker.haltPending.getD .bus) } } .bus :=
  (s.raise .bus).haltEvent_taking .bus hw hs

/-! ### The cursor offset word (01 R11) -/

theorem State.writeCursor_quiet (s : State) (c : Offset) (hc : s.walker.cursor = some c) (hb : s.bus = {}) :
    s.writeCursor = { s with mem := s.mem.writeWord (s.busAddress 0x04) (c.setWidth 32) } := by
  simp [State.writeCursor, hc, hb]

theorem State.writeCursor_error (s : State) (c : Offset) (cs : List BusCycle) (hc : s.walker.cursor = some c)
    (hb : s.bus.cycles = { error := true } :: cs) :
    s.writeCursor = State.busHalt { s with bus := { s.bus with cycles := cs } } := by
  have fails : s.writeWord 0x04 (c.setWidth 32) = (false, _) := s.write_error (.word 0x04 (c.setWidth 32)) cs hb
  simp only [State.writeCursor, hc, fails]
  rfl

/-! ### The end of a take (01 R11, R12, R17, R22) -/

/-- The walker at the end of a take, before a pending halt, RUN 0 or another look acts on it. -/
def Walker.takeDone (w : Walker) : Walker :=
  { w with status := .idle, walk := .none, takes := w.takes + 1, haltPending := none, stopping := false }

theorem Walker.takeDone_unhalted (w : Walker) (h : w.haltPending = none) :
    w.takeDone = { w with status := .idle, walk := .none, takes := w.takes + 1, stopping := false } := by
  rw [Walker.takeDone, h]

theorem State.finishTake_eq (s : State) :
    s.finishTake =
      let u := s.writeCursor
      let t : State := { u with walker := u.walker.takeDone }
      match u.walker.haltPending with
      | some reason => t.enterHalted reason
      | none =>
        if u.walker.stopping ∨ ¬ u.regs.run then t.endWalk (if u.regs.run then .idle else .stopped)
        else if u.walker.takes + 1 < 4 then t.look
        else t := rfl

section
variable {s u : State} (hu : s.writeCursor = u)
include hu

/-- A halting event that has come within the take halts the walker after it. -/
theorem State.finishTake_halts {reason : HaltReason} (hp : u.walker.haltPending = some reason) :
    s.finishTake = withCause { u with walker := halted u.walker.takeDone reason } .chain := by
  rw [State.finishTake_eq, hu]
  simp only [hp, State.enterHalted_eq]

/-- With RUN 0 the walker becomes STOPPED. -/
theorem State.finishTake_stopped (hp : u.walker.haltPending = none) (hr : u.regs.run = false) :
    s.finishTake = { u with walker := { u.walker.takeDone with status := .stopped } } := by
  rw [State.finishTake_eq, hu]
  simp [hp, hr, State.endWalk, State.onWalker, Walker.takeDone]

/-- The fourth take ends the walk, and so does RUN written 0 and 1 within the take. -/
theorem State.finishTake_ends (hp : u.walker.haltPending = none) (hr : u.regs.run = true)
    (ends : u.walker.stopping = true ∨ 3 ≤ u.walker.takes) : s.finishTake = { u with walker := u.walker.takeDone } := by
  rw [State.finishTake_eq, hu]
  simp only [hp, hr, not_true, or_false, if_true]
  split
  · rfl
  · next goesOn => rw [if_neg (by have := ends.resolve_left goesOn; omega)]

/-- An earlier take brings another look. -/
theorem State.finishTake_looks (hp : u.walker.haltPending = none) (hr : u.regs.run = true)
    (hs : u.walker.stopping = false) (ht : u.walker.takes < 3) :
    s.finishTake = State.look { u with walker := u.walker.takeDone } := by
  rw [State.finishTake_eq, hu]
  have more : u.walker.takes + 1 < 4 := by omega
  simp [hp, hr, hs, more]

end

/-! ### Bus errors at the end of a take (01 R18, R19) -/

section
variable {s : State} {c : Offset} (hw : s.walker.walk = .taking) (hs : s.walker.status ≠ .halted)
  (hc : s.walker.cursor = some c)
include hw hs hc

/-- After a bus error within the take the cursor offset word is written all the same, and then the walker halts. -/
theorem State.finishTake_after_busHalt (hb : s.bus = {}) : s.busHalt.finishTake = withCause (withCause { s with
    mem := s.mem.writeWord (s.busAddress 0x04) (c.setWidth 32)
    walker := halted s.walker.takeDone (s.walker.haltPending.getD .bus) } .bus) .chain := by
  have pended := s.busHalt_taking hw hs
  have cursor := s.busHalt.writeCursor_quiet c (by rw [pended]; exact hc) (by rw [pended]; exact hb)
  rw [State.finishTake_halts cursor (reason := s.walker.haltPending.getD .bus) (by rw [pended]; rfl), pended]
  rfl

/-- A bus error on the cursor offset word halts the walker. -/
theorem State.finishTake_cursor_error {cs : List BusCycle} (hb : s.bus.cycles = { error := true } :: cs) :
    s.finishTake = withCause (withCause { s with
      bus := { s.bus with cycles := cs }
      walker := halted s.walker.takeDone (s.walker.haltPending.getD .bus) } .bus) .chain :=
  State.finishTake_halts ((s.writeCursor_error c cs hc hb).trans (State.busHalt_taking _ hw hs)) rfl

end

/-! ### HELD_WRITE that the take in progress waits for (01 R11, R15, R18) -/

theorem exec_heldWrite (s : State) (bus : List BusCycle) (hp : s.regs.poreset = false) :
    exec (.heldWrite bus) s = .next ((s.setBus { cycles := bus, cut := false }).serveHeld.setBus {}) :=
  whileReleasedBus_next s bus State.serveHeld hp

theorem State.resumeTake_awaited (s : State) (hw : s.walker.walk = .taking) : s.resumeTake true = s.finishTake := by
  simp [State.resumeTake, hw]

section
variable {s u : State} {off : Offset} {rest : List Request} (hr : s.retire = .held off true :: rest)
include hr

theorem State.serveHeld_written (hu : s.dropRequest.writeByte off stateHeld = (true, u)) (hw : u.walker.walk = .taking) :
    s.serveHeld = u.finishTake := by
  simp only [State.serveHeld, hr, hu, if_true, u.resumeTake_awaited hw]

/-- A bus error on the byte is a halting event within the take, and the cursor offset word follows. -/
theorem State.serveHeld_failed (hu : s.dropRequest.writeByte off stateHeld = (false, u)) (hw : u.walker.walk = .taking)
    (hs : u.walker.status ≠ .halted) : s.serveHeld = u.busHalt.finishTake := by
  have taking : u.busHalt.walker.walk = .taking := by
    rw [u.busHalt_taking hw hs]
    exact hw
  simp only [State.serveHeld, hr, hu, Bool.false_eq_true, if_false, u.busHalt.resumeTake_awaited taking]

end

/-- The state with the front request gone, the bus cycles `cs` left, and memory `m`. -/
def State.servedFront (s : State) (cs : List BusCycle) (m : Memory) : State :=
  { s.dropRequest with bus := { cycles := cs, cut := false }, mem := m }

section
variable {s : State} {off : Offset} {rest : List Request} (hp : s.regs.poreset = false)
  (hr : s.retire = .held off true :: rest) (hw : s.walker.walk = .taking)
include hp hr hw

theorem exec_heldWrite_quiet : exec (.heldWrite []) s =
    .next ((s.servedFront [] (s.mem.write (s.busAddress off) stateHeld)).finishTake.setBus {}) := by
  rw [exec_heldWrite s _ hp, State.serveHeld_written (s := s.setBus {}) hr (State.writeByte_quiet _ off _ rfl) hw]
  rfl

theorem exec_heldWrite_good (cs : List BusCycle) : exec (.heldWrite ({} :: cs)) s =
    .next ((s.servedFront cs (s.mem.write (s.busAddress off) stateHeld)).finishTake.setBus {}) := by
  rw [exec_heldWrite s _ hp, State.serveHeld_written (s := s.setBus { cycles := {} :: cs }) hr
    (State.write_cycles _ (.byte off stateHeld) cs rfl) hw]
  rfl

theorem exec_heldWrite_error (hs : s.walker.status ≠ .halted) (cs : List BusCycle) :
    exec (.heldWrite ({ error := true } :: cs)) s = .next ((s.servedFront cs s.mem).busHalt.finishTake.setBus {}) := by
  rw [exec_heldWrite s _ hp, State.serveHeld_failed (s := s.setBus { cycles := { error := true } :: cs }) hr
    (State.write_error _ (.byte off stateHeld) cs rfl) hw hs]
  rfl

end

/-! ### Causes stay pending (10 R181) -/

/-- The cause is in the pending set. -/
def State.Raised (s : State) (c : Cause) : Prop := s.regs.attnPending &&& c.bit = c.bit

theorem State.Raised.of_regs {s t : State} {c : Cause} (h : s.Raised c) (e : t.regs = s.regs) : t.Raised c := by
  unfold State.Raised
  rw [e]
  exact h

theorem State.OnlyMemory.raised {s t : State} {c : Cause} (o : s.OnlyMemory t) (h : s.Raised c) : t.Raised c :=
  h.of_regs (by rw [o.rest])

theorem State.raised_raise (s : State) (c : Cause) : (s.raise c).Raised c := by
  unfold State.Raised State.raise State.onRegs
  ext i
  simpa using Or.inr

theorem State.Raised.raise {s : State} {c : Cause} (h : s.Raised c) (d : Cause) : (s.raise d).Raised c := by
  unfold State.Raised at *
  show (s.regs.attnPending ||| d.bit) &&& c.bit = c.bit
  rw [BitVec.and_comm, BitVec.and_or_distrib_left, BitVec.and_comm, h]
  ext i
  simpa using fun inC _ => inC

theorem State.Raised.onWalker {s : State} {c : Cause} (h : s.Raised c) (f : Walker → Walker) :
    (s.onWalker f).Raised c := h

theorem State.Raised.haltEvent {s : State} {c : Cause} (h : s.Raised c) (reason : HaltReason) :
    (s.haltEvent reason).Raised c := by
  unfold State.haltEvent
  split
  · exact h
  · split
    · exact h.onWalker _
    · exact (h.onWalker _).raise .chain

theorem State.Raised.busHalt {s : State} {c : Cause} (h : s.Raised c) : s.busHalt.Raised c :=
  (h.raise .bus).haltEvent .bus

theorem State.Raised.endWalk_busHalt {s : State} {c : Cause} (h : s.Raised c) (status : WalkerStatus) :
    (s.endWalk status).busHalt.Raised c := (h.onWalker _).busHalt

theorem State.Raised.lookBody {s : State} {c : Cause} (h : s.Raised c) (off : Offset) (header : Word) :
    (s.lookBody off header).Raised c := by
  have reads := s.readWords_only (wordByte header 3).toNat (off + 16)
  unfold State.lookBody
  split
  · rename_i t e
    rw [e] at reads
    exact (reads.raised h).endWalk_busHalt _
  · rename_i body t e
    rw [e] at reads
    dsimp only
    split
    · exact (reads.raised h).onWalker _
    · exact (reads.raised h).onWalker _

theorem State.Raised.lookRecord {s : State} {c : Cause} (h : s.Raised c) (off : Offset) :
    (s.lookRecord off).Raised c := by
  have first := s.readWord_only off
  unfold State.lookRecord
  split
  · rename_i t e
    rw [e] at first
    exact (first.raised h).endWalk_busHalt _
  · rename_i header t e
    rw [e] at first
    have atHeader : t.Raised c := first.raised h
    have others := t.readWords_only 3 (off + 4)
    split
    · exact atHeader.onWalker _
    · split
      · rename_i u e2
        rw [e2] at others
        exact (others.raised atHeader).endWalk_busHalt _
      · rename_i words u e2
        rw [e2] at others
        have atWords : u.Raised c := others.raised atHeader
        split
        · exact atWords.of_regs rfl
        · exact atWords.lookBody off header

theorem State.Raised.look {s : State} {c : Cause} (h : s.Raised c) : s.look.Raised c := by
  have reads := s.readWord_only s.walker.linkOffset
  unfold State.look
  split
  · rename_i t e
    rw [e] at reads
    exact (reads.raised h).endWalk_busHalt _
  · rename_i link t e
    rw [e] at reads
    have atLink : t.Raised c := reads.raised h
    split
    · exact atLink.onWalker _
    · split
      · exact State.Raised.haltEvent (atLink.onWalker _) _
      · exact atLink.lookRecord _

theorem State.Raised.writeCursor {s : State} {c : Cause} (h : s.Raised c) : s.writeCursor.Raised c := by
  unfold State.writeCursor
  split
  · exact h
  · rename_i off e
    have written : (s.writeWord 0x04 (off.setWidth 32)).2.Raised c := (s.writeWord_only _ _).raised h
    dsimp only
    split
    · exact written
    · exact written.busHalt

theorem State.Raised.finishTake {s : State} {c : Cause} (h : s.Raised c) : s.finishTake.Raised c := by
  have done : State.Raised { s.writeCursor with walker := s.writeCursor.walker.takeDone } c := h.writeCursor
  rw [State.finishTake_eq]
  dsimp only
  split
  · exact (done.onWalker _).raise .chain
  · split
    · exact done.onWalker _
    · split
      · exact done.look
      · exact done

theorem State.Raised.resumeTake {s : State} {c : Cause} (h : s.Raised c) (awaited : Bool) :
    (s.resumeTake awaited).Raised c := by
  unfold State.resumeTake
  split
  · exact h.finishTake
  · exact h

/-! ### The retirement of a record with NOTIFY (01 R16) -/

theorem State.retired_raises (s : State) (h : Held) (o : OutcomeCode) (hn : h.notify = true) :
    (s.retired h o).Raised .retire := by
  unfold State.retired
  rw [hn, State.raiseIf_true]
  dsimp only
  split
  · exact (State.raised_raise _ _).haltEvent _
  · exact State.raised_raise _ _

/-- On a bus without errors the retirement of a record with NOTIFY raises RETIRE, and whatever follows it leaves it so. -/
theorem exec_retirement_raises (s t : State) (h : Held) (o : OutcomeCode) (d : Octet) (results : List (Nat × Word))
    (awaited : Bool) (rest : List Request) (hp : s.regs.poreset = false)
    (hr : s.retire = .retire h o d results awaited :: rest) (hn : h.notify = true)
    (ht : exec (.retirement []) s = .next t) : t.Raised .retire := by
  have served : exec (.retirement []) s = .next ((s.setBus {}).serveRetirement.setBus {}) :=
    whileReleasedBus_next s [] State.serveRetirement hp
  obtain rfl : _ = t := by simpa [served] using ht
  show (s.setBus {}).serveRetirement.Raised .retire
  have front : (s.setBus {}).retire = .retire h o d results awaited :: rest := hr
  simp only [State.serveRetirement, front]
  rw [State.writes_quiet _ _ rfl]
  dsimp only
  rw [if_pos rfl]
  exact (State.retired_raises _ h o hn).resumeTake awaited

/-! ### The statements -/

/-- Settles O13: the byte and the cursor offset word of the HELD write are made or fail, and the end of the take then goes by
its pending halt, by RUN and by the count of takes. -/
theorem heldWriteServed : Obligations.HeldWriteServed := by
  intro s off c rest hp hr hw hs hc
  obtain rfl : rest = s.retire.tail := by simp [hr]
  have quiet := exec_heldWrite_quiet hp hr hw
  have cursor {m : Memory} := (s.servedFront [] m).writeCursor_quiet c hc rfl
  refine ⟨fun hn => ?_, fun reason hpend => ?_, ?_, ?_⟩
  · rw [← s.walker.takeDone_unhalted hn]
    refine ⟨fun hrun _ htakes => ?_, fun hrun hstop htakes => ?_, fun hrun => ?_, fun hrun hstop => ?_⟩
    · rw [quiet, State.finishTake_ends cursor hn hrun (.inr htakes)]
      rfl
    · rw [quiet, State.finishTake_looks cursor hn hrun hstop htakes]
      rfl
    · rw [quiet, State.finishTake_stopped cursor hn hrun]
      rfl
    · rw [quiet, State.finishTake_ends cursor hn hrun (.inl hstop)]
      rfl
  · rw [quiet, State.finishTake_halts cursor hpend]
    rfl
  · rw [show errorAfter 0 = { error := true } :: [] from rfl, exec_heldWrite_error hp hr hw hs,
      State.finishTake_after_busHalt (s := s.servedFront [] s.mem) hw hs hc rfl]
    rfl
  · rw [show errorAfter 1 = {} :: [{ error := true }] from rfl, exec_heldWrite_good hp hr hw,
      State.finishTake_cursor_error (s := s.servedFront _ _) hw hs hc rfl]
    rfl

/-- Settles O21: NOP's owner answers DONE and detail 0 and changes nothing, and the one request that the take leaves at an
empty retire path is the retirement that raises RETIRE. -/
theorem nopIsTakenAndDone : Obligations.NopIsTakenAndDone := by
  have done : ∀ (s : State) (r : WorkRecord), Found s .nop r → exec .nop s = .next (ended s r .done 0) :=
    fun s r hf => take_ends s .nop r (fun s _ => (.done, 0, s)) hf (by decide)
  refine ⟨done, fun s r t u hf hn hq ht hu => ?_⟩
  obtain rfl : ended s r .done 0 = t := by simpa [done s r hf] using ht
  have front : (ended s r .done 0).retire = [.retire r.held .done 0 [] true] := by simp [ended, hq]
  exact exec_retirement_raises (ended s r .done 0) u r.held .done 0 [] true [] hf.1 front hn hu

end Sys2Proof.Machine
end

section
/-! PROOFS. The header writes of the first RUN after a reset, on a quiet bus and at a bus error on either word; then the
statement on them. -/

namespace Sys2Proof.Machine

/-! ### Bus errors outside a take (01 R18 to R20) -/

theorem State.busHalt_enters (s : State) (hw : s.walker.walk ≠ .taking) (hs : s.walker.status ≠ .halted) :
    s.busHalt = withCause (withCause { s with walker := halted s.walker .bus } .bus) .chain := by
  have enters : s.busHalt = (s.raise .bus).enterHalted .bus := by simp [State.busHalt, State.haltEvent, hs, hw]
  rw [enters]
  rfl

/-- Of a HALTED walker a further bus error changes nothing, once BUS is pending. -/
theorem State.busHalt_again (s : State) (hs : s.walker.status = .halted) (hb : s.Raised .bus) : s.busHalt = s := by
  have stays : s.regs.attnPending ||| Cause.bus.bit = s.regs.attnPending := by
    rw [← show _ = Cause.bus.bit from hb]
    ext i
    simpa using fun inPending _ => inPending
  have raises : s.busHalt = withCause s .bus := if_pos hs
  rw [raises, withCause, stays]

/-! ### One header word (01 R2, R19) -/

/-- Word `off` of the header is written 0, and a bus error on it halts the walker. -/
def State.clearWord (s : State) (off : Offset) : State :=
  let r := s.writeWord off 0
  if r.1 then r.2 else r.2.busHalt

theorem State.headerWrites_eq (s : State) : s.headerWrites =
    if (s.writeWord 0x04 0).1 || Config.secondHeaderWrite then (s.clearWord 0x04).clearWord 0x08
    else s.clearWord 0x04 := rfl

theorem State.clearWord_quiet (s : State) (off : Offset) (h : s.bus = {}) :
    s.clearWord off = { s with mem := s.mem.writeWord (s.busAddress off) 0 } := by
  simp [State.clearWord, h]

section
variable (s : State) (off : Offset) {cs : List BusCycle}

theorem State.clearWord_good (h : s.bus.cycles = {} :: cs) : s.clearWord off =
    { s with mem := s.mem.writeWord (s.busAddress off) 0, bus := { s.bus with cycles := cs } } := by
  have good : s.writeWord off 0 = (true, _) := s.write_cycles (.word off 0) cs h
  simp only [State.clearWord, good, if_true]
  rfl

theorem State.clearWord_error (h : s.bus.cycles = { error := true } :: cs) :
    s.clearWord off = State.busHalt { s with bus := { s.bus with cycles := cs } } := by
  have fails : s.writeWord off 0 = (false, _) := s.write_error (.word off 0) cs h
  simp only [State.clearWord, fails, Bool.false_eq_true, if_false]

end

/-! ### Both header words -/

section
variable (s : State) {cs : List BusCycle}

theorem State.headerWrites_quiet (h : s.bus = {}) : s.headerWrites =
    { s with mem := (s.mem.writeWord (s.busAddress 0x04) 0).writeWord (s.busAddress 0x08) 0 } := by
  rw [State.headerWrites_eq, s.writeWord_quiet 0x04 0 h, Bool.true_or, if_pos rfl,
    s.clearWord_quiet 0x04 h]
  exact State.clearWord_quiet _ 0x08 h

theorem State.headerWrites_second_error (h : s.bus.cycles = {} :: { error := true } :: cs) : s.headerWrites =
    State.busHalt { s with
      mem := s.mem.writeWord (s.busAddress 0x04) 0
      bus := { s.bus with cycles := cs } } := by
  have good : s.writeWord 0x04 0 = (true, _) := s.write_cycles (.word 0x04 0) _ h
  rw [State.headerWrites_eq, good, Bool.true_or, if_pos rfl, s.clearWord_good 0x04 h,
    State.clearWord_error _ 0x08 (cs := cs) rfl]

/-- After a failed first write the second is made or left out, as the free value says (log 12). -/
theorem State.headerWrites_first_error (h : s.bus.cycles = { error := true } :: cs) : s.headerWrites =
    let u := State.busHalt { s with bus := { s.bus with cycles := cs } }
    if Config.secondHeaderWrite then u.clearWord 0x08 else u := by
  have fails : s.writeWord 0x04 0 = (false, _) := s.write_error (.word 0x04 0) cs h
  rw [State.headerWrites_eq, fails, Bool.false_or, s.clearWord_error 0x04 h]

end

/-! ### The fields that the flag makes due (02 R45, 04 R83, 09 R175) -/

theorem State.onLine_allPorts (s : State) (f : LineUnit → LineUnit) :
    allPorts.foldl (fun s p => s.onLine p f) s = { s with lines := mapAll f s.lines } := by
  have each : updAt (updAt (updAt (updAt s.lines 0 f) 1 f) 2 f) 3 f = mapAll f s.lines := by
    refine vector_ext _ _ fun i => ?_
    rw [mapAll_get]
    fin_cases i <;> simp [updAt]
  rw [← each]
  rfl

theorem State.headerWritten_eq (s : State) : s.headerWritten = { s with
    walker := { s.walker with headerWritten := true }
    lines := mapAll (fun l => { l with statusDue := true }) s.lines
    activity := { s.activity with imageDue := true }
    supervision := { s.supervision with wordDue := true } } := by
  unfold State.headerWritten
  dsimp only
  rw [State.onLine_allPorts]
  rfl

/-! ### The first RUN (01 R22, 10 R178) -/

/-- The state with RUN 1 and the walker out of STOPPED, and the bus cycles `cs` before the header writes. -/
def State.runStarted (s : State) (cs : List BusCycle) : State :=
  { s with
    bus := { cycles := cs, cut := false }
    regs := { s.regs with run := true }
    walker := { s.walker with status := if s.walker.status = .stopped then .idle else s.walker.status } }

theorem State.startRun_eq (s : State) (cs : List BusCycle) (hh : s.walker.headerWritten = false) :
    (s.setBus { cycles := cs, cut := false }).startRun = (s.runStarted cs).headerWrites.headerWritten := by
  have starts : (s.setBus { cycles := cs, cut := false }).startRun = (s.runStarted cs).headerInit := by
    unfold State.startRun State.runStarted
    by_cases stopped : s.walker.status = .stopped <;> simp [stopped, State.onRegs, State.onWalker, State.setBus]
  have first : (s.runStarted cs).walker.headerWritten = false := hh
  rw [starts, State.headerInit, first]
  rfl

theorem State.runStarted_unhalted (s : State) (cs : List BusCycle) (hs : s.walker.status ≠ .halted) :
    (s.runStarted cs).walker.status ≠ .halted := by
  by_cases stopped : s.walker.status = .stopped <;> simp [State.runStarted, stopped, hs]

/-- A write of CONTROL that is neither a reset nor a RESUME, and sets RUN for the first time in the reset period. -/
theorem exec_run_first (s : State) (v : Word) (cs : List BusCycle) (hp : s.regs.poreset = false)
    (hv : isResetCode v = false) (h1 : v.getLsbD 1 = false) (hr : s.regs.run = false) (h0 : v.getLsbD 0 = true)
    (hh : s.walker.headerWritten = false) :
    exec (.run v cs) s = .next ((s.runStarted cs).headerWrites.headerWritten.setBus {}) := by
  rw [← s.startRun_eq cs hh]
  refine (whileReleasedBus_next s cs _ hp).trans ?_
  have sets : (s.setBus { cycles := cs, cut := false }).writeRun true = (s.setBus { cycles := cs, cut := false }).startRun := by
    simp [State.writeRun, hr]
  simp only [State.withBus, hv, h1, h0, sets, Bool.false_eq_true, or_self, if_false]

/-! ### A bus error on a header word (01 R19) -/

/-- The state after a bus error on a header word at the first RUN, with the bus cycles `cs` left and memory `m`. -/
def State.headerFailed (s : State) (cs : List BusCycle) (m : Memory) : State :=
  withCause (withCause { s with
    bus := { cycles := cs, cut := false }
    mem := m
    regs := { s.regs with run := true }
    walker := halted s.walker .bus } .bus) .chain

theorem State.headerFailed_clearWord_quiet (s : State) (m : Memory) (off : Offset) :
    (s.headerFailed [] m).clearWord off = s.headerFailed [] (m.writeWord (s.busAddress off) 0) :=
  State.clearWord_quiet _ off rfl

/-- A second bus error leaves the walker as the first has left it. -/
theorem State.headerFailed_clearWord_error (s : State) (cs : List BusCycle) (m : Memory) (off : Offset) :
    (s.headerFailed ({ error := true } :: cs) m).clearWord off = s.headerFailed cs m := by
  have pending : State.Raised (s.headerFailed cs m) .bus := (State.raised_raise _ .bus).raise .chain
  exact (State.clearWord_error _ off rfl).trans (State.busHalt_again _ rfl pending)

section
variable (s : State) (hw : s.walker.walk ≠ .taking) (hs : s.walker.status ≠ .halted)
include hw hs

/-- A bus error halts the walker that RUN has just started; whether it was STOPPED before does not show. -/
theorem State.busHalt_runStarted (cs : List BusCycle) (m : Memory) :
    State.busHalt { s.runStarted cs with mem := m } = s.headerFailed cs m :=
  State.busHalt_enters _ hw (s.runStarted_unhalted cs hs)

/-- After a failed first write the second is made or left out, as the free value says (log 12). -/
theorem State.runStarted_first_error (cs : List BusCycle) : (s.runStarted ({ error := true } :: cs)).headerWrites =
    if Config.secondHeaderWrite then (s.headerFailed cs s.mem).clearWord 0x08 else s.headerFailed cs s.mem := by
  rw [State.headerWrites_first_error _ (cs := cs) rfl, ← s.busHalt_runStarted hw hs cs s.mem]
  rfl

theorem State.runStarted_second_error (cs : List BusCycle) :
    (s.runStarted ({} :: { error := true } :: cs)).headerWrites =
      s.headerFailed cs (s.mem.writeWord (s.busAddress 0x04) 0) :=
  (State.headerWrites_second_error _ rfl).trans (s.busHalt_runStarted hw hs cs _)

end

/-- Settles O7: the header words are written on a good bus, and a bus error on either one halts the walker. The outcomes of
a failed first write differ only in whether the second is made. -/
theorem firstRunWritesTheHeader : Obligations.FirstRunWritesTheHeader := by
  intro v s hp hv h1 hr h0 hh
  have runs (cs : List BusCycle) := exec_run_first s v cs hp hv h1 hr h0 hh
  refine ⟨?_, fun hw hs => ?_⟩
  · rw [runs, State.headerWrites_quiet _ rfl, State.headerWritten_eq]
    rfl
  have first := s.runStarted_first_error hw hs
  refine ⟨?_, ?_, ?_⟩
  · rw [runs, show errorAfter 0 = { error := true } :: [] from rfl, first, s.headerFailed_clearWord_quiet s.mem 0x08,
      State.headerWritten_eq]
    cases Config.secondHeaderWrite with
    | false => exact .inl rfl
    | true => exact .inr rfl
  · rw [runs, first, s.headerFailed_clearWord_error [] s.mem 0x08, State.headerWritten_eq]
    cases Config.secondHeaderWrite with
    | false => rfl
    | true => rfl
  · rw [runs, show errorAfter 1 = {} :: { error := true } :: [] from rfl, s.runStarted_second_error hw hs,
      State.headerWritten_eq]
    rfl

end Sys2Proof.Machine
end

section
/-! PROOFS. What a search finds and what one step does to a scan group; then the statement on the scan step. -/

namespace Sys2Proof.Machine

/-! ### The search of a group (05 R92) -/

/-- The places `f 0` to `f (n - 1)`, cut at place `f d`. -/
theorem map_range_split (f : Nat → Nat) {d n : Nat} (h : d < n) :
    ∃ after, (List.range n).map f = (List.range d).map f ++ f d :: after := by
  obtain ⟨m, rfl⟩ := Nat.exists_eq_add_of_lt h
  rw [Nat.add_assoc, List.range_add, List.map_append, List.range_succ_eq_map]
  exact ⟨_, rfl⟩

section
variable {a : Activity} {g : ScanGroup}

/-- A search over the places `f 0` to `f (n - 1)` ends at the first eligible one. -/
theorem ScanGroup.searchIn_map_range (f : Nat → Nat) {d n : Nat} (hd : d < n) (eligible : g.eligibleAt a (f d) = true)
    (before : ∀ e, e < d → g.eligibleAt a (f e) = false) : g.searchIn a ((List.range n).map f) = g.choose (f d) := by
  obtain ⟨after, split⟩ := map_range_split f hd
  rw [split]
  refine g.searchIn_first a _ after (f d) eligible fun j hj => ?_
  obtain ⟨e, he, rfl⟩ := List.mem_map.1 hj
  exact before e (List.mem_range.1 he)

theorem ScanGroup.eligibleAt_lt {i : Nat} (h : g.eligibleAt a i = true) : i < g.members.length := by
  by_contra outside
  simp [ScanGroup.eligibleAt, List.getElem?_eq_none (Nat.le_of_not_lt outside)] at h

theorem ScanGroup.search_running {c : Nat} (h : g.current = some c) : g.search a = g.searchIn a (g.onward c) := by
  simp [ScanGroup.search, h]

theorem ScanGroup.search_empty (h : g.current = none) : g.search a = g.searchIn a g.fromStart := by
  simp [ScanGroup.search, h]

theorem ScanGroup.search_none (h : ∀ i, g.eligibleAt a i = false) : g.search a = { g with current := none, dwell := 0 } := by
  cases hc : g.current with
  | none => rw [ScanGroup.search_empty hc, ScanGroup.searchIn_none a g _ fun j _ => h j]
  | some c => rw [ScanGroup.search_running hc, ScanGroup.searchIn_none a g _ fun j _ => h j]

/-- An EMPTY group finds the lowest eligible index. -/
theorem ScanGroup.search_first {i : Nat} (hc : g.current = none) (eligible : g.eligibleAt a i = true)
    (before : ∀ j, j < i → g.eligibleAt a j = false) : g.search a = g.choose i := by
  have order : g.fromStart = (List.range g.members.length).map id := (List.map_id _).symm
  rw [ScanGroup.search_empty hc, order]
  exact ScanGroup.searchIn_map_range id (ScanGroup.eligibleAt_lt eligible) eligible before

/-- The dwell that a group comes with has no part in its search: a member found brings its own, and an EMPTY group has 0. -/
theorem ScanGroup.search_dwell (d : Nat) : ({ g with dwell := d } : ScanGroup).search a = g.search a := rfl

/-! ### The step of a group (05 R93) -/

theorem ScanGroup.step_held (h : g.hold = true) : g.step a = g := by
  simp [ScanGroup.step, h]

theorem ScanGroup.step_empty (hh : g.hold = false) (hc : g.current = none) : g.step a = g.search a := by
  simp [ScanGroup.step, hh, hc]

theorem ScanGroup.step_running {c : Nat} (hh : g.hold = false) (hc : g.current = some c) : g.step a = g.lower a c := by
  simp [ScanGroup.step, hh, hc]

theorem ScanGroup.lower_stays {c : Nat} (hd : 2 ≤ g.dwell) (hs : ¬ (g.skipSilent = true ∧ g.eligibleAt a c = false)) :
    g.lower a c = { g with dwell := g.dwell - 1 } :=
  if_neg fun due => due.elim (by dsimp only; omega) hs

theorem ScanGroup.lower_searches {c : Nat}
    (h : g.dwell ≤ 1 ∨ (g.skipSilent = true ∧ g.eligibleAt a c = false)) : g.lower a c = g.search a :=
  (if_pos (h.imp_left Nat.sub_eq_zero_of_le)).trans (ScanGroup.search_dwell _)

end

/-! ### SCAN_STEP (05 R93, R94) -/

theorem exec_scanStep (s : State) (hp : s.regs.poreset = false) : exec .scanStep s = .next s.scanStep :=
  whileReleased_next s State.scanStep hp

theorem State.scanStep_due (s : State) (h : s.timer.scanDue = true) : s.scanStep = { s with
    timer := { s.timer with scanDue := false }
    groups := mapAll (ScanGroup.step s.activity) s.groups
    switch := { s.switch with scanAhead := Vector.replicate 8 false } } := by
  rw [State.scanStep, if_pos h]
  rfl

theorem State.scanStep_not_due (s : State) (h : s.timer.scanDue = false) : s.scanStep = s := by
  simp [State.scanStep, h]

/-- Settles O48: the groups step one by one, and the order in which a search meets the members decides what it finds. -/
theorem scanStepDue : Obligations.ScanStepDue := by
  refine ⟨fun s hp due => ⟨mapAll (ScanGroup.step s.activity) s.groups, ?_, fun g => ?_⟩, fun s hp idle => ?_,
    fun a g => ⟨ScanGroup.search_none, fun i => ScanGroup.search_first, fun c d hc hd eligible before => ?_⟩⟩
  · rw [exec_scanStep s hp, s.scanStep_due due]
  · rw [mapAll_get]
    exact ⟨ScanGroup.step_held,
      fun c hh hc hd hs => (ScanGroup.step_running hh hc).trans (ScanGroup.lower_stays hd hs),
      fun c hh hc h => (ScanGroup.step_running hh hc).trans (ScanGroup.lower_searches h),
      ScanGroup.step_empty⟩
  · rw [exec_scanStep s hp, s.scanStep_not_due idle]
  · rw [ScanGroup.search_running hc]
    exact ScanGroup.searchIn_map_range (fun j => (c + 1 + j) % g.members.length) hd eligible before

end Sys2Proof.Machine
end

section
/-! PROOFS. The outputs of the scan groups, the octets formed, the sources read and the frame sent; then the statement on
them. -/

namespace Sys2Proof.Machine

/-! ### The output of a group (05 R90) -/

section
variable (s : State) {g : ScanGroup} {i : Nat} {m : Member}

theorem State.groupOutput_empty (h : g.current = none) : s.groupOutput g = idleOctet ∧ g.currentSlot = none := by
  simp [State.groupOutput, ScanGroup.currentSlot, h]

theorem State.groupOutput_slot (hc : g.current = some i) (hm : g.members[i]? = some m) {k : SlotIndex}
    (hk : m.source = .slot k) : s.groupOutput g = s.inboundOctet k ∧ g.currentSlot = some k := by
  simp [State.groupOutput, ScanGroup.currentSlot, hc, hm, hk]

theorem State.groupOutput_stream (hc : g.current = some i) (hm : g.members[i]? = some m) {n : StreamNo}
    (hn : m.source = .stream n) : s.groupOutput g = s.streams[n].current ∧ g.currentSlot = none := by
  simp [State.groupOutput, ScanGroup.currentSlot, hc, hm, hn]

end

/-- The reading meets each group as SCAN_STEP leaves it. -/
theorem State.scanStep_groups (s : State) (g : GroupNo) : s.scanStep.groups[g] = s.groupRead g := by
  cases due : s.timer.scanDue with
  | true => rw [s.scanStep_due due, State.groupRead, if_pos due, mapAll_get]
  | false => rw [s.scanStep_not_due due, State.groupRead, due]; rfl

/-! ### One piece of boundary work -/

theorem exec_doWork (s : State) (w : BoundaryWork) (hp : s.regs.poreset = false) :
    exec (.frameBoundary false [w] []) s = .next (((s.setBus {}).doWork w).setBus {}) :=
  whileReleasedBus_next s [] (fun s => [w].foldl State.doWork s) hp

/-! ### Forming (03 R49 to R53) -/

theorem State.changes_not_due (s : State) (first : Bool) (hc : s.switch.changeDue = false)
    (ho : s.switch.overlayDue = false) : s.changes first = s := by
  have held : s.heldChange = s := by simp [State.heldChange, hc]
  have overlay : s.overlayIfDue = s := by simp [State.overlayIfDue, ho]
  cases first with
  | true => rw [State.changes, if_pos rfl, overlay, held]
  | false => rw [State.changes, if_neg Bool.false_ne_true, held, overlay]

theorem State.formWork_unchanged (s : State) (first : Bool) (hf : s.switch.formDue = true)
    (hc : s.switch.changeDue = false) (ho : s.switch.overlayDue = false) :
    s.formWork first = s.onSwitch Switch.form := by
  rw [State.formWork, if_pos hf, s.changes_not_due first hc ho]

theorem State.formWork_not_due (s : State) (first : Bool) (hf : s.switch.formDue = false) : s.formWork first = s := by
  simp [State.formWork, hf]

/-! ### The sources read (03 R49) -/

theorem State.streamWork_not_due (s : State) (n : StreamNo) (h : s.streams[n].frameDue = false) : s.streamWork n = s :=
  if_neg (by simpa using h)

theorem State.streamWorks_not_due (s : State) (h : ∀ n : StreamNo, s.streams[n].frameDue = false) (ns : List StreamNo) :
    ns.foldl State.streamWork s = s := by
  induction ns with
  | nil => rfl
  | cons n ns ih => rw [List.foldl_cons, s.streamWork_not_due n (h n), ih]

theorem State.sourcesWork_reads (s : State) (hs : s.switch.sourcesDue = true) (hf : s.switch.formDue = false)
    (hn : ∀ n : StreamNo, s.streams[n].frameDue = false) : s.sourcesWork = s.readSources := by
  rw [State.sourcesWork, if_pos hs, s.formWork_not_due false hf, s.streamWorks_not_due hn]

theorem State.readSources_slot (s : State) (k : SlotIndex) : s.readSources.switch.srcSlots[k] = s.inboundOctet k :=
  tabulate_get 120 s.inboundOctet k

theorem State.readSources_stream (s : State) (n : StreamNo) : s.readSources.switch.srcStreams[n] = s.streams[n].current :=
  tabulate_get 16 (fun n => s.streams[n].current) n

theorem State.readSources_scan (s : State) (g : GroupNo) :
    s.readSources.switch.srcScans[g] = s.groupOutput (s.groupRead g) :=
  tabulate_get 8 (fun g => s.groupOutput (s.groupRead g)) g

theorem State.readSources_scanFrom (s : State) (g : GroupNo) :
    s.readSources.switch.scanFrom[g] = (s.groupRead g).currentSlot :=
  tabulate_get 8 (fun g => (s.groupRead g).currentSlot) g

/-! ### The frame sent (02 R29, R30, R44) -/

theorem slotIndex?_port_slot (k : SlotIndex) : slotIndex? (SlotIndex.port k).val (SlotIndex.slot k).val = some k := by
  have inRange : k.val / 30 < 4 ∧ 2 ≤ k.val % 30 + 2 ∧ k.val % 30 + 2 < 32 := by omega
  have whole : 30 * (k.val / 30) + (k.val % 30 + 2 - 2) = k.val := by omega
  simp only [slotIndex?, SlotIndex.port, SlotIndex.slot, dif_pos inRange, whole]

theorem State.sentFrame_off (s : State) (p : Port) (h : s.lines[p].tx.line = .off) : s.sentFrame p = none := by
  rw [State.sentFrame, if_pos h]

/-- Out of OFF a frame is sent: slot 0, the line-state octet, and in the traffic slots the octets formed. -/
theorem State.sentFrame_on (s : State) (p : Port) (h : s.lines[p].tx.line ≠ .off) : ∃ f : Frame, s.sentFrame p = some f ∧
    f[1] = s.lines[p].tx.line.lineCode ++ (if s.lines[p].tx.line.runs then s.lines[p].tx.marks else 0) ∧
    f[0] = (if s.lines[p].tx.line.runs then s.lines[p].tx.slot0 else 0xFF) ∧
    ∀ k : SlotIndex, SlotIndex.port k = p →
      f[SlotIndex.slot k] = if s.lines[p].tx.line.runs then s.switch.out[k] else 0xFF := by
  refine ⟨_, if_neg h, by simp [tabulate], by simp [tabulate], fun k hk => ?_⟩
  subst hk
  have traffic : (SlotIndex.slot k).val ≠ 0 ∧ (SlotIndex.slot k).val ≠ 1 := by simp [SlotIndex.slot]
  rw [tabulate_get, if_neg traffic.1, if_neg traffic.2, slotIndex?_port_slot]

theorem State.pnTx_looped (s : State) (p : Port) (h : s.lines[p].tx.loop = true) : s.pnTx p = none := by
  rw [State.pnTx, if_pos h]

theorem State.pnTx_unlooped (s : State) (p : Port) (h : s.lines[p].tx.loop = false) : s.pnTx p = s.sentFrame p := by
  rw [State.pnTx, h, if_neg Bool.false_ne_true]

theorem State.pnTx_off (s : State) (p : Port) (h : s.lines[p].tx.line = .off) : s.pnTx p = none := by
  rw [State.pnTx, s.sentFrame_off p h, ite_self]

/-! ### The statement -/

/-- Settles O40: forming without changes, the reading of the sources with each group as the scan step leaves it, the reading
put right before a take, and the frame sent. -/
theorem octetsFormedAndSourcesRead : Obligations.OctetsFormedAndSourcesRead := by
  refine ⟨fun s first hp hf hc ho => ⟨s.switch.form.out, ?_, fun k => ?_⟩, fun s hp hs hf hn => ?_, fun s g => ?_,
    fun s p => ?_⟩
  · rw [exec_doWork s _ hp, State.doWork, State.formWork_unchanged (s.setBus {}) first hf hc ho]
    rfl
  · rw [Switch.form_out]
    have held {x : Source} (e : s.switch.map[k].source = x) := congrArg s.switch.sourceOctet e
    exact ⟨held, fun _ => held, fun _ => held, fun _ => held, fun _ => held⟩
  · refine ⟨s.readSources.switch.srcSlots, s.readSources.switch.srcStreams, s.readSources.switch.srcScans,
      s.readSources.switch.scanFrom, s.scanStep, exec_scanStep s hp, ?_, s.readSources_slot, s.readSources_stream, fun g => ?_⟩
    · rw [exec_doWork s _ hp, State.doWork, State.sourcesWork_reads (s.setBus {}) hs hf hn]
      rfl
    · rw [s.scanStep_groups, s.readSources_scan, s.readSources_scanFrom]
      refine ⟨s.groupOutput_empty, fun i m hc hm => ⟨fun k hk => ?_, fun n hn => ?_⟩⟩
      · rw [s.readSources_slot]
        exact s.groupOutput_slot hc hm hk
      · rw [s.readSources_stream]
        exact s.groupOutput_stream hc hm hn
  · exact ⟨s.readBeforeTake_stepped g, fun ahead => ⟨s.groupOutput s.groups[g], s.groups[g].currentSlot, if_pos ahead,
      s.groupOutput_empty,
      fun i m hc hm => ⟨fun k hk => (s.groupOutput_slot hc hm hk).symm, fun n hn => (s.groupOutput_stream hc hm hn).symm⟩⟩⟩
  · exact ⟨fun h => h.elim (s.pnTx_off p) (s.pnTx_looped p), s.pnTx_unlooped p, ⟨rfl, rfl, rfl, rfl, rfl⟩, s.sentFrame_off p,
      s.sentFrame_on p⟩

end Sys2Proof.Machine
end

section
/-! PROOFS. The responses of a challenge and the step of its shift register, what the end of a period leaves of supervision,
and what a PULSE does for each judgement; then the statement on CHALLENGE mode. -/

namespace Sys2Proof.Machine

/-! ### The challenge (09 R167, R168) -/

/-- The two nibbles of R167's table as one byte: the complement of Q is 15 − Q. -/
theorem response_eq (q : BitVec 4) (k : Nat) (hk : k < 16) :
    response q k = BitVec.ofNat 8 (16 * ((q.toNat + k) % 16) + ((15 - q.toNat) ^^^ k)) := by
  have high : (q + BitVec.ofNat 4 k).toNat = (q.toNat + k) % 16 := by simp
  have low : (~~~q ^^^ BitVec.ofNat 4 k).toNat = (15 - q.toNat) ^^^ k := by simp [Nat.mod_eq_of_lt hk]
  have nibble : (15 - q.toNat) ^^^ k < 2 ^ 4 := Nat.xor_lt_two_pow (by omega) hk
  apply BitVec.eq_of_toNat_eq
  rw [response, BitVec.toNat_append, high, low, ← Nat.shiftLeft_add_eq_or_of_lt nibble, Nat.shiftLeft_eq, BitVec.toNat_ofNat]
  omega

/-- The step of the shift register drops bit 3 and brings the new bit in at bit 0 (R168). -/
theorem lowBits_append_eq_shiftLeft (q : BitVec 4) (new : Bool) :
    q.extractLsb' 0 3 ++ BitVec.ofBool new = (q <<< 1) ||| (BitVec.ofBool new).setWidth 4 := by
  ext i hi
  rw [BitVec.getElem_append]
  cases i with
  | zero => simp
  | succ i => simp [BitVec.getLsbD_eq_getElem (show i < 4 by omega)]

/-! ### The end of a period (09 R168 to R170) -/

theorem Supervision.goodEnd_challenge (v : Supervision) (hm : v.mode = .challenge) : v.goodEnd =
    { v.fresh with errorCount := v.errorCount - 1, q := advanceQ v.selector v.q, wordDue := true } := by
  rw [Supervision.goodEnd, if_pos hm]

/-- A trip sets TRIPPED and FALLBACK and, with its action, RESET_OUT; the period, the count and Q are not its own. -/
theorem Supervision.trip_eq (v : Supervision) : v.trip = { v with
    tripped := true
    fallback := true
    resetOut := if v.action = .fallbackAndPulse then some v.pulseLength else v.resetOut
    resetTick := if v.action = .fallbackAndPulse then false else v.resetTick } := by
  by_cases pulses : v.action = .fallbackAndPulse <;> simp [Supervision.trip, pulses]

theorem State.endBad_supervision (s : State) : s.endBad.supervision =
    if s.supervision.trips then s.supervision.badEnd.trip else s.supervision.badEnd := by
  by_cases trips : s.supervision.trips = true <;> simp [State.endBad, trips]

theorem State.periodEnd_due (s : State) (hd : s.supervision.advanceDue = true)
    (he : s.supervision.period * 64 ≤ s.supervision.position + 1) : s.periodEnd = s.endBad :=
  if_pos ⟨hd, he⟩

/-- A period that reaches its end is judged bad, whether it trips or not: the count rises and Q stays. -/
theorem State.endBad_judged (s : State) :
    s.endBad.supervision.errorCount = min 15 (s.supervision.errorCount + 1) ∧ s.endBad.supervision.position = 0 ∧
    s.endBad.supervision.phase = .first ∧ s.endBad.supervision.bad = false ∧ s.endBad.supervision.index = 3 ∧
    s.endBad.supervision.q = s.supervision.q := by
  rw [s.endBad_supervision]
  split
  · rw [Supervision.trip_eq]
    exact ⟨rfl, rfl, rfl, rfl, rfl, rfl⟩
  · exact ⟨rfl, rfl, rfl, rfl, rfl, rfl⟩

/-! ### The verdict in CHALLENGE mode (09 R167) -/

section
variable {v : Supervision} (hm : v.mode = .challenge) (hb : v.bad = false)
include hm hb

theorem Supervision.judgePulse_first (hp : v.phase = .first) (resp : Octet) : v.judgePulse resp =
    if v.index ≠ 0 ∧ resp = response v.q v.index then .goodStep else .error := by
  simp [Supervision.judgePulse, hm, hb, hp]

theorem Supervision.judgePulse_second (hp : v.phase = .second) (resp : Octet) : v.judgePulse resp =
    if v.index = 0 ∧ resp = response v.q 0 then .goodEnd else .error := by
  simp [Supervision.judgePulse, hm, hb, hp]

end

/-! ### PULSE at its owner, for each judgement (09 R165, R168, R169) -/

/-- A good end raises SUPERVISION only where the count changes. -/
theorem State.endGood_eq (s : State) : s.endGood =
    { (if s.supervision.errorCount = 0 then s else withCause s .supervision) with
      supervision := s.supervision.goodEnd } := by
  rw [State.endGood]
  by_cases zero : s.supervision.errorCount = 0
  · rw [if_pos zero, zero]
    rfl
  · rw [if_neg zero, bne_iff_ne.2 zero]
    rfl

section
variable {s : State} {r : WorkRecord} (hm : s.supervision.mode ≠ .off)
include hm

theorem State.pulse_error (hj : s.supervision.judgePulse (r.byte 0 0) = .error) : s.pulse r =
    (.done, 2, s.onSupervision fun v => { v with bad := true, wordDue := true }) := by
  rw [State.pulse, if_neg hm, hj]

theorem State.pulse_goodStep (hj : s.supervision.judgePulse (r.byte 0 0) = .goodStep) : s.pulse r =
    (.done, 1, s.onSupervision fun v => { v with index := v.index - 1, wordDue := true }) := by
  rw [State.pulse, if_neg hm, hj]

theorem State.pulse_goodEnd (hj : s.supervision.judgePulse (r.byte 0 0) = .goodEnd) : s.pulse r =
    (.done, 1, s.endGood) := by
  rw [State.pulse, if_neg hm, hj]

end

/-! ### The command PULSE, for each judgement -/

section
variable {s : State} {r : WorkRecord} (hf : Found s .pulse r)
include hf

/-- A PULSE is retired with its owner's answer, on the state that its owner leaves. -/
theorem exec_pulse {o : OutcomeCode} {d : Octet} {u : State} (answers : (taken s r).pulse r = (o, d, u)) :
    exec .pulse s = .next (u.endTake r.held o d) := by
  refine (take_ends s .pulse r State.pulse hf (by decide)).trans ?_
  rw [answers]

variable (hm : s.supervision.mode ≠ .off)
include hm

theorem exec_pulse_error (hj : s.supervision.judgePulse (r.byte 0 0) = .error) : exec .pulse s =
    .next { ended s r .done 2 with supervision := { s.supervision with bad := true, wordDue := true } } :=
  exec_pulse hf (State.pulse_error (s := taken s r) hm hj)

theorem exec_pulse_goodStep (hj : s.supervision.judgePulse (r.byte 0 0) = .goodStep) : exec .pulse s =
    .next { ended s r .done 1 with
      supervision := { s.supervision with index := s.supervision.index - 1, wordDue := true } } :=
  exec_pulse hf (State.pulse_goodStep (s := taken s r) hm hj)

theorem exec_pulse_goodEnd (hj : s.supervision.judgePulse (r.byte 0 0) = .goodEnd) : exec .pulse s = .next
    { (if s.supervision.errorCount = 0 then ended s r .done 1 else withCause (ended s r .done 1) .supervision) with
      supervision := s.supervision.goodEnd } := by
  rw [exec_pulse hf (State.pulse_goodEnd (s := taken s r) hm hj), State.endGood_eq]
  by_cases zero : s.supervision.errorCount = 0
  · rw [if_pos zero, if_pos (show (taken s r).supervision.errorCount = 0 from zero)]
    rfl
  · rw [if_neg zero, if_neg (show ¬ (taken s r).supervision.errorCount = 0 from zero)]
    rfl

end

/-! ### The statement -/

/-- Settles O37: the judgement goes by the phase, the index and the response, and each judgement has its own effect; the
shift register steps at a good end only. -/
theorem pulseChallenge : Obligations.PulseChallenge := by
  refine ⟨fun q k hk => response_eq q k (by omega), by decide, fun s hp hd he => ?_, fun s r hf hm hb => ?_⟩
  · refine ⟨s.endBad, ?_, s.endBad_judged⟩
    rw [← s.periodEnd_due hd he]
    exact whileReleased_next s State.periodEnd hp
  · have on : s.supervision.mode ≠ .off := by simp [hm]
    have first (hp : s.supervision.phase = .first) := Supervision.judgePulse_first hm hb hp (r.byte 0 0)
    have second (hp : s.supervision.phase = .second) := Supervision.judgePulse_second hm hb hp (r.byte 0 0)
    refine ⟨fun hp hi hr => ?_, fun hp hi hr => ?_, fun hp hi => ?_, fun hp hi => ?_, fun hp hi hr => ?_, fun hp hi hr => ?_⟩
    · exact exec_pulse_goodStep hf on ((first hp).trans (if_pos ⟨hi, hr⟩))
    · exact exec_pulse_error hf on ((first hp).trans (if_neg fun good => hr good.2))
    · exact exec_pulse_error hf on ((first hp).trans (if_neg fun good => good.1 hi))
    · exact exec_pulse_error hf on ((second hp).trans (if_neg fun good => hi good.1))
    · exact exec_pulse_error hf on ((second hp).trans (if_neg fun good => hr good.2))
    · have shifted : advanceQ s.supervision.selector s.supervision.q = _ := lowBits_append_eq_shiftLeft s.supervision.q _
      rw [exec_pulse_goodEnd hf on ((second hp).trans (if_pos ⟨hi, hr⟩)), Supervision.goodEnd_challenge _ hm, shifted]
      rfl

end Sys2Proof.Machine
end

section
/-! PROOFS. What a write of ATTENTION or ATTENTION_ENABLE leaves of the pending and enabled causes, and what the reads and
ATTN show of them; then the statements on the attention registers. -/

namespace Sys2Proof.Machine

/-! ### The writes of the two registers (10 R181, R182) -/

section
variable (v : Word) (s : State) (hp : s.regs.poreset = false)
include hp

/-- The causes written 1 are cleared. -/
theorem exec_attention : exec (.attention v) s =
    .next { s with regs := { s.regs with attnPending := s.regs.attnPending &&& ~~~v.setWidth 7 } } := by
  rw [BitVec.setWidth_eq_extractLsb' (by decide)]
  show execAttention v s = _
  exact whileReleased_next s _ hp

theorem exec_attentionEnable : exec (.attentionEnable v) s =
    .next { s with regs := { s.regs with attnEnable := v.setWidth 7 } } := by
  rw [BitVec.setWidth_eq_extractLsb' (by decide)]
  show execAttentionEnable v s = _
  exact whileReleased_next s _ hp

end

/-- Cause `i` stays pending after a clearing write exactly when its bit is written 0. -/
theorem getLsbD_cleared (pending : BitVec 7) (v : Word) {i : Nat} (hi : i < 7) :
    (pending &&& ~~~v.setWidth 7).getLsbD i = (pending.getLsbD i && !v.getLsbD i) := by
  simp [hi]

/-- Whatever was pending, a cause written 1 is not. -/
theorem cleared_and_bit (pending written bit : BitVec 7) (h : written &&& bit = bit) :
    pending &&& ~~~written &&& bit = 0 := by
  calc pending &&& ~~~written &&& bit
    _ = pending &&& ~~~written &&& (written &&& bit) := by rw [h]
    _ = pending &&& (~~~written &&& written) &&& bit := by simp only [BitVec.and_assoc]
    _ = 0 := by simp

/-! ### The reads (10 R181, R182) -/

theorem State.readRegister_attention (s : State) :
    s.readRegister 0x10 = (s.regs.attnPending &&& s.regs.attnEnable).setWidth 32 := rfl

theorem State.readRegister_attentionEnable (s : State) : s.readRegister 0x14 = s.regs.attnEnable.setWidth 32 := rfl

/-- The enables written, in a word of their own, are the low seven bits of the word written. -/
theorem setWidth_causes (v : Word) : (v.setWidth 7).setWidth 32 = v &&& 0x7F := by
  apply BitVec.eq_of_toNat_eq
  have low : v.toNat % 2 ^ 7 < 2 ^ 32 := by omega
  rw [BitVec.toNat_setWidth, BitVec.toNat_setWidth, Nat.mod_eq_of_lt low, BitVec.toNat_and]
  exact (Nat.and_two_pow_sub_one_eq_mod v.toNat 7).symm

/-! ### ATTN (10 R182) -/

theorem State.attn_iff (s : State) : s.attn = true ↔
    ∃ i, i < 7 ∧ s.regs.attnPending.getLsbD i = true ∧ s.regs.attnEnable.getLsbD i = true := by
  rw [State.attn, bne_iff_ne, ne_eq, BitVec.eq_of_getLsbD_eq_iff]
  simp

theorem State.attn_released (s : State) (h : s.regs.attnPending = 0) : s.attn = false := by
  simp [State.attn, h]

/-! ### The resets (10 R183) -/

theorem exec_powerOnReset (cuts : List Cut) (s : State) :
    exec (.powerOnReset cuts) s = .next (s.applyCuts cuts).powerOn := rfl

theorem exec_softReset (v : Word) (cuts : List Cut) (s : State) (hp : s.regs.poreset = false) (hv : isResetCode v = true) :
    exec (.softReset v cuts) s = .next (s.applyCuts cuts).soft := by
  refine (whileReleased_next s _ hp).trans ?_
  rw [if_pos hv]

/-! ### The statements -/

/-- Settles O10: a clearing write keeps the bits written 0, and of a raise and a clearing write the later one decides,
since each of them sets its bit whatever stood there. -/
theorem attentionWritten : Obligations.AttentionWritten := by
  refine ⟨by decide, fun v s hp => ?_, fun _ _ => rfl, fun v s c hp => ⟨?_, fun written => ?_⟩, fun s i hi => ?_⟩
  · exact ⟨_, exec_attention v s hp, rfl, fun i hi => getLsbD_cleared _ v hi⟩
  · exact ⟨_, exec_attention v s hp, State.raised_raise _ c⟩
  · exact ⟨_, exec_attention v (s.raise c) hp, cleared_and_bit _ _ _ written⟩
  · rw [s.readRegister_attention, BitVec.getLsbD_setWidth, BitVec.getLsbD_and]
    by_cases cause : i < 7
    · simp [hi, cause]
    · simp [cause, BitVec.getLsbD_of_ge _ i (Nat.le_of_not_lt cause)]

/-- Settles O11: ATTN is a function of the two sets, so it is read off the sets that each write and each reset leaves. -/
theorem attentionEnableAndAttn : Obligations.AttentionEnableAndAttn := by
  refine ⟨fun v s hp => ⟨_, exec_attentionEnable v s hp, rfl, ?_⟩, State.attn_iff, fun v s t hp ht => ?_,
    fun v s t hp ht => ?_, fun cuts s t ht => ?_, fun v cuts s t hp hv ht => ?_⟩
  · exact (State.readRegister_attentionEnable _).trans (setWidth_causes v)
  · cases (exec_attentionEnable v s hp).symm.trans ht
    rw [State.attn_iff]
    refine exists_congr fun i => and_congr_right fun hi => ?_
    simp [hi]
  · cases (exec_attention v s hp).symm.trans ht
    rw [State.attn_iff]
    refine exists_congr fun i => and_congr_right fun hi => ?_
    simp [getLsbD_cleared _ v hi, and_assoc]
  · cases (exec_powerOnReset cuts s).symm.trans ht
    exact ⟨rfl, rfl, State.attn_released _ rfl⟩
  · cases (exec_softReset v cuts s hp hv).symm.trans ht
    exact ⟨rfl, rfl, State.attn_released _ rfl⟩

end Sys2Proof.Machine
end

section
/-! PROOFS. The four invariants in one relation: what a part of a step keeps of a state, block by block. Every function of the
model has one lemma here, and each invariant is read off the lemma on `exec`. -/

namespace Sys2Proof.Machine

/-! ### Tables -/

/-- What holds of every entry still does after one entry is changed, if the change keeps it. -/
theorem forall_updAt {α : Type} {n : Nat} {P : α → Prop} {v : Vector α n} {i : Fin n} {f : α → α}
    (h : ∀ j : Fin n, P v[j]) (hi : P v[i] → P (f v[i])) (j : Fin n) : P (updAt v i f)[j] := by
  by_cases same : i = j
  · subst same
    rw [updAt_same]
    exact hi (h i)
  · rw [updAt_other v i j f same]
    exact h j

/-- A table's entries in order. -/
theorem toList_eq_map_finRange {α : Type} {n : Nat} (v : Vector α n) :
    v.toList = (List.finRange n).map fun i => v[i] := by
  apply List.ext_getElem <;> simp

/-! ### The bounds, block by block -/

def LineUnit.InRange (l : LineUnit) : Prop := l.wakeCount ≤ 8 ∧ l.quietCount ≤ 4

def Router.InRange (r : Router) : Prop := r.listens.length ≤ 8 ∧ r.probes.length ≤ 4

def ScanGroup.InRange (g : ScanGroup) : Prop :=
  g.members.length ≤ 8 ∧ (∀ m ∈ g.members, m.dwell ≤ 255) ∧
  ∀ i, g.current = some i → i < g.members.length ∧ 1 ≤ g.dwell ∧ g.dwell ≤ 255

structure Activity.InRange (a : Activity) : Prop where
  threshold : 2 ≤ a.threshold ∧ a.threshold ≤ 127
  onset : 1 ≤ a.onset ∧ a.onset ≤ 64
  hang : a.hang ≤ 255
  slots : ∀ k : SlotIndex, a.slots[k].hang ≤ 255

structure Supervision.InRange (v : Supervision) : Prop where
  period : 2 ≤ v.period ∧ v.period ≤ 254 ∧ v.period % 2 = 0
  threshold : 1 ≤ v.threshold ∧ v.threshold ≤ 15
  pulseLength : 1 ≤ v.pulseLength ∧ v.pulseLength ≤ 15
  errorCount : v.errorCount ≤ 15
  index : v.index ≤ 3
  position : v.position < 64 * v.period
  table : v.table.length ≤ 32

/-- `InRange`, block by block. -/
structure State.Bounded (s : State) : Prop where
  queues : ∀ p : Port, s.channels[p].queue.length ≤ 4
  lines : ∀ p : Port, s.lines[p].InRange
  router : s.router.InRange
  groups : ∀ g : GroupNo, s.groups[g].InRange
  activity : s.activity.InRange
  supervision : s.supervision.InRange

theorem inRange_iff (s : State) : InRange s ↔ s.Bounded := by
  constructor
  · rintro ⟨ports, listens, probes, groups, t1, t2, o1, o2, hang, slots, p1, p2, p3, h1, h2, l1, l2, e, i, pos, table⟩
    exact ⟨fun p => (ports p).1, fun p => (ports p).2, ⟨listens, probes⟩, groups, ⟨⟨t1, t2⟩, ⟨o1, o2⟩, hang, slots⟩,
      ⟨⟨p1, p2, p3⟩, ⟨h1, h2⟩, ⟨l1, l2⟩, e, i, pos, table⟩⟩
  · rintro ⟨queues, lines, ⟨listens, probes⟩, groups, ⟨⟨t1, t2⟩, ⟨o1, o2⟩, hang, slots⟩,
      ⟨⟨p1, p2, p3⟩, ⟨h1, h2⟩, ⟨l1, l2⟩, e, i, pos, table⟩⟩
    exact ⟨fun p => ⟨queues p, lines p⟩, listens, probes, groups, t1, t2, o1, o2, hang, slots, p1, p2, p3, h1, h2, l1, l2, e, i,
      pos, table⟩

/-! ### The requests that a take waits for -/

/-- The walker's take waits for this request. -/
def Request.isAwaited : Request → Bool
  | .held _ awaited => awaited
  | .retire _ _ _ _ awaited => awaited

/-- The invariant of takes in a state whose take has still to make `d` of its requests: at a take's start one is missing. -/
def TakeLacks (d : Nat) (s : State) : Prop :=
  s.walker.takes ≤ 4 ∧ (s.walker.walk ≠ .none → s.walker.takes ≤ 3) ∧
  (s.retire.filter Request.isAwaited).length + d = if s.walker.walk = .taking then 1 else 0

theorem takeHasItsRequest_iff (s : State) : TakeHasItsRequest s ↔ TakeLacks 0 s := Iff.rfl

/-! ### What the law of references reads -/

theorem State.isOpenFeed_eq (s : State) (n : StreamNo) :
    s.isOpenFeed n = (s.streams[n].desc.map StreamDesc.dir == some .feed) := by
  unfold State.isOpenFeed
  cases s.streams[n].desc <;> rfl

/-- Streams that the law of references cannot tell apart. -/
def Stream.NamedAlike (t u : Stream) : Prop := u.refs = t.refs ∧ u.desc.map StreamDesc.dir = t.desc.map StreamDesc.dir

/-- Two states that the law of references cannot tell apart. -/
structure State.NamesAlike (s t : State) : Prop where
  streams : ∀ n : StreamNo, s.streams[n].NamedAlike t.streams[n]
  map : t.switch.map = s.switch.map
  displaced : t.switch.displaced = s.switch.displaced
  overlayOrder : t.switch.overlayOrder = s.switch.overlayOrder
  overlayDue : t.switch.overlayDue = true → s.switch.overlayDue = true ∨ s.switch.overlayOrder = true
  members : ∀ g : GroupNo, t.groups[g].members = s.groups[g].members
  table : t.supervision.table = s.supervision.table
  fallback : t.supervision.fallback = s.supervision.fallback

theorem references_eq (s : State) (n : StreamNo) : references s n =
    (s.switch.map.toList.countP fun e => e.source == .stream n) +
    (s.switch.displaced.countP fun d => d.entry.source == .stream n) +
    ((List.finRange 8).map fun g => s.groups[g].members.countP fun m => m.source == .stream n).sum := by
  unfold references
  rw [toList_eq_map_finRange s.groups, List.map_map]
  rfl

theorem State.NamesAlike.keeps {s t : State} (h : s.NamesAlike t) (hs : ReferencesCounted s) : ReferencesCounted t := by
  obtain ⟨counted, nodup, noStream, distinct, marked, covered, ordered, empty, clear⟩ := hs
  have same (n : StreamNo) : references t n = references s n := by
    rw [references_eq, references_eq, h.map, h.displaced]
    simp only [h.members]
  unfold ReferencesCounted
  rw [h.table, h.displaced, h.map, h.fallback, h.overlayOrder]
  refine ⟨fun n => ?_, nodup, noStream, distinct, marked, covered, fun due => (h.overlayDue due).elim ordered id, empty, clear⟩
  rw [same, (h.streams n).1, State.isOpenFeed_eq, (h.streams n).2, ← State.isOpenFeed_eq]
  exact counted n

/-! ### Keeping -/

/-- The queue of commands and the frame number stay, and each invariant that holds before holds after. -/
structure State.Keeps (s t : State) : Prop where
  pending : t.pending = s.pending
  number : t.timer.number = s.timer.number
  mem : s.mem.wf = true → t.mem.wf = true
  bounded : s.Bounded → t.Bounded
  takes : ∀ d, TakeLacks d s → TakeLacks d t
  refs : ReferencesCounted s → ReferencesCounted t

theorem State.Keeps.refl (s : State) : s.Keeps s := ⟨rfl, rfl, id, id, fun _ => id, id⟩

theorem State.Keeps.trans {s t u : State} (h : s.Keeps t) (k : t.Keeps u) : s.Keeps u :=
  ⟨k.pending.trans h.pending, k.number.trans h.number, k.mem ∘ h.mem, k.bounded ∘ h.bounded, fun d => k.takes d ∘ h.takes d, k.refs ∘ h.refs⟩

theorem State.Keeps.foldl {α : Type} {f : State → α → State} (h : ∀ (s : State) a, s.Keeps (f s a)) (l : List α) (s : State) :
    s.Keeps (l.foldl f s) := by
  induction l generalizing s with
  | nil => exact .refl s
  | cons a l ih => exact (h s a).trans (ih _)

theorem State.Keeps.ite {c : Prop} [Decidable c] {s t u : State} (h : s.Keeps t) (k : s.Keeps u) :
    s.Keeps (if c then t else u) := by
  split
  · exact h
  · exact k

theorem State.Keeps.of_eq {s t u : State} (h : s.Keeps t) (e : u = t) : s.Keeps u := e ▸ h

/-! ### Keeping, for a change of one block -/

theorem State.OnlyMemory.keeps {s t : State} (h : s.OnlyMemory t) : s.Keeps t := by
  have rest := h.rest
  refine ⟨by rw [rest], by rw [rest], h.wf, fun b => ?_, fun d k => ?_, fun r => ?_⟩
  · rw [rest]; exact ⟨b.queues, b.lines, b.router, b.groups, b.activity, b.supervision⟩
  · rw [rest]; exact k
  · rw [rest]; exact r

theorem State.setBus_keeps (s : State) (b : Bus) : s.Keeps (s.setBus b) := State.OnlyMemory.keeps ⟨rfl, id⟩

section
variable (s : State)

theorem State.onRegs_keeps (f : Registers → Registers) : s.Keeps (s.onRegs f) :=
  ⟨rfl, rfl, id, fun b => ⟨b.queues, b.lines, b.router, b.groups, b.activity, b.supervision⟩, fun _ => id, id⟩

theorem State.onTimer_keeps (f : FrameTimer → FrameTimer) (h : (f s.timer).number = s.timer.number) : s.Keeps (s.onTimer f) :=
  ⟨rfl, h, id, fun b => ⟨b.queues, b.lines, b.router, b.groups, b.activity, b.supervision⟩, fun _ => id, id⟩

theorem State.onWalker_keeps (f : Walker → Walker) (takes : (f s.walker).takes = s.walker.takes)
    (walk : (f s.walker).walk = s.walker.walk) : s.Keeps (s.onWalker f) := by
  refine ⟨rfl, rfl, id, fun b => ⟨b.queues, b.lines, b.router, b.groups, b.activity, b.supervision⟩, fun d h => ?_, id⟩
  unfold TakeLacks
  rw [State.onWalker_walker, takes, walk]
  exact h

theorem State.onLine_keeps (p : Port) (f : LineUnit → LineUnit) (h : s.lines[p].InRange → (f s.lines[p]).InRange) :
    s.Keeps (s.onLine p f) :=
  ⟨rfl, rfl, id, fun b => ⟨b.queues, forall_updAt b.lines h, b.router, b.groups, b.activity, b.supervision⟩, fun _ => id, id⟩

theorem State.onChannel_keeps (p : Port) (f : Channel → Channel)
    (h : s.channels[p].queue.length ≤ 4 → (f s.channels[p]).queue.length ≤ 4) : s.Keeps (s.onChannel p f) :=
  ⟨rfl, rfl, id, fun b => ⟨forall_updAt (P := fun c : Channel => c.queue.length ≤ 4) b.queues h, b.lines, b.router, b.groups, b.activity,
    b.supervision⟩, fun _ => id, id⟩

theorem State.onRouter_keeps (f : Router → Router) (h : s.router.InRange → (f s.router).InRange) : s.Keeps (s.onRouter f) :=
  ⟨rfl, rfl, id, fun b => ⟨b.queues, b.lines, h b.router, b.groups, b.activity, b.supervision⟩, fun _ => id, id⟩

theorem State.onActivity_keeps (f : Activity → Activity) (h : s.activity.InRange → (f s.activity).InRange) :
    s.Keeps (s.onActivity f) :=
  ⟨rfl, rfl, id, fun b => ⟨b.queues, b.lines, b.router, b.groups, h b.activity, b.supervision⟩, fun _ => id, id⟩

theorem State.onSupervision_keeps (f : Supervision → Supervision) (h : s.supervision.InRange → (f s.supervision).InRange)
    (table : (f s.supervision).table = s.supervision.table) (fallback : (f s.supervision).fallback = s.supervision.fallback) :
    s.Keeps (s.onSupervision f) :=
  ⟨rfl, rfl, id, fun b => ⟨b.queues, b.lines, b.router, b.groups, b.activity, h b.supervision⟩, fun _ => id,
    State.NamesAlike.keeps (s := s) ⟨fun _ => ⟨rfl, rfl⟩, rfl, rfl, rfl, .inl, fun _ => rfl, table, fallback⟩⟩

theorem State.onSwitch_keeps (f : Switch → Switch) (map : (f s.switch).map = s.switch.map)
    (displaced : (f s.switch).displaced = s.switch.displaced) (order : (f s.switch).overlayOrder = s.switch.overlayOrder)
    (due : (f s.switch).overlayDue = true → s.switch.overlayDue = true ∨ s.switch.overlayOrder = true) :
    s.Keeps (s.onSwitch f) :=
  ⟨rfl, rfl, id, fun b => ⟨b.queues, b.lines, b.router, b.groups, b.activity, b.supervision⟩, fun _ => id,
    State.NamesAlike.keeps (s := s) ⟨fun _ => ⟨rfl, rfl⟩, map, displaced, order, due, fun _ => rfl, rfl, rfl⟩⟩

/-- A change of streams that the law of references cannot see. -/
theorem State.streams_keeps (streams : Vector Stream 16) (h : ∀ n : StreamNo, s.streams[n].NamedAlike streams[n]) :
    s.Keeps { s with streams := streams } :=
  ⟨rfl, rfl, id, fun b => ⟨b.queues, b.lines, b.router, b.groups, b.activity, b.supervision⟩, fun _ => id,
    State.NamesAlike.keeps (s := s) ⟨h, rfl, rfl, rfl, .inl, fun _ => rfl, rfl, rfl⟩⟩

theorem State.onStream_keeps (n : StreamNo) (f : Stream → Stream) (h : s.streams[n].NamedAlike (f s.streams[n])) :
    s.Keeps (s.onStream n f) := by
  refine s.streams_keeps _ fun m => ?_
  by_cases same : n = m
  · subst same
    rw [updAt_same]
    exact h
  · rw [updAt_other _ _ _ _ same]
    exact ⟨rfl, rfl⟩

theorem State.groups_keeps (groups : Vector ScanGroup 8) (h : ∀ g : GroupNo, s.groups[g].InRange → groups[g].InRange)
    (members : ∀ g : GroupNo, groups[g].members = s.groups[g].members) : s.Keeps { s with groups := groups } :=
  ⟨rfl, rfl, id, fun b => ⟨b.queues, b.lines, b.router, fun g => h g (b.groups g), b.activity, b.supervision⟩, fun _ => id,
    State.NamesAlike.keeps (s := s) ⟨fun _ => ⟨rfl, rfl⟩, rfl, rfl, rfl, .inl, members, rfl, rfl⟩⟩

theorem State.onGroup_keeps (g : GroupNo) (f : ScanGroup → ScanGroup) (h : s.groups[g].InRange → (f s.groups[g]).InRange)
    (members : (f s.groups[g]).members = s.groups[g].members) : s.Keeps (s.onGroup g f) := by
  have each (j : GroupNo) : (s.groups[j].InRange → (updAt s.groups g f)[j].InRange) ∧
      (updAt s.groups g f)[j].members = s.groups[j].members := by
    by_cases same : g = j
    · subst same
      rw [updAt_same]
      exact ⟨h, members⟩
    · rw [updAt_other _ _ _ _ same]
      exact ⟨id, rfl⟩
  exact s.groups_keeps _ (fun j => (each j).1) fun j => (each j).2

/-- A request that no take waits for. -/
theorem State.addRequest_keeps (q : Request) (h : q.isAwaited = false) : s.Keeps (s.addRequest q) := by
  refine ⟨rfl, rfl, id, fun b => ⟨b.queues, b.lines, b.router, b.groups, b.activity, b.supervision⟩, fun d k => ?_, id⟩
  unfold TakeLacks
  rw [State.addRequest_retire, List.filter_append, List.filter_cons_of_neg (by simp [h]), List.filter_nil,
    List.append_nil]
  exact k

/-- The request of the take in progress. -/
theorem State.addRequest_awaited (q : Request) (h : q.isAwaited = true) (k : TakeLacks 1 s) :
    TakeLacks 0 (s.addRequest q) := by
  unfold TakeLacks
  rw [State.addRequest_retire, List.filter_append, List.filter_cons_of_pos h, List.length_append]
  exact k

theorem State.raise_keeps (c : Cause) : s.Keeps (s.raise c) := s.onRegs_keeps _

theorem State.raiseIf_keeps (b : Bool) (c : Cause) : s.Keeps (s.raiseIf b c) := by
  cases b with
  | true => exact s.raise_keeps c
  | false => exact .refl s

theorem State.requestRetire_keeps (h : Held) (o : OutcomeCode) (d : Octet) (results : List (Nat × Word)) :
    s.Keeps (s.requestRetire h o d results) := s.addRequest_keeps _ rfl

end

end Sys2Proof.Machine
end

section
/-! PROOFS. What routing, channels and port lines keep. -/

namespace Sys2Proof.Machine

/-! ### The router (08) -/

section
variable (s : State)

theorem State.deliver_keeps {t : State} {m : Message} {d : Octet} (h : s.deliver m d = some t) : s.Keeps t := by
  unfold State.deliver at h
  split at h
  · cases h
  · rename_i l ls pool
    cases h
    refine (s.onRouter_keeps _ fun r => ⟨?_, r.2⟩).trans (State.requestRetire_keeps _ _ _ _ _)
    have := r.1
    rw [pool, List.length_cons] at this
    exact Nat.le_of_succ_le this

theorem State.delivered_keeps (m : Message) (d : Octet) : s.Keeps ((s.deliver m d).getD s) := by
  cases h : s.deliver m d with
  | none => exact .refl s
  | some t => exact s.deliver_keeps h

theorem State.matchReply_keeps (m : Message) : s.Keeps (s.matchReply m) := by
  unfold State.matchReply
  split
  · exact .refl s
  · exact (s.onRouter_keeps _ fun r => ⟨r.1, List.eraseP_sublist.length_le.trans r.2⟩).trans
      (State.requestRetire_keeps _ _ _ _ _)

theorem State.enqueue_keeps (p : Port) (q : Queued) (h : s.queueFree p = true) : s.Keeps (s.enqueue p q) := by
  refine s.onChannel_keeps p _ fun _ => ?_
  have room : s.channels[p].queue.length < 4 := of_decide_eq_true h
  rw [List.length_append]
  exact room

theorem State.queueRoom_free {p : Port} (h : s.queueRoom p = true) : s.queueFree p = true := by
  unfold State.queueRoom at h
  exact (Bool.and_eq_true _ _ ▸ h).2

theorem State.routeMade_keeps (m : Message) : s.Keeps (s.routeMade m) := by
  unfold State.routeMade
  split
  · split
    · exact s.delivered_keeps m _
    · exact s.delivered_keeps m _
    · exact s.matchReply_keeps m
    · exact .refl s
    · exact .refl s
  · split
    · next room => exact s.enqueue_keeps _ _ (s.queueRoom_free room)
    · exact .refl s
  · exact .refl s
  · exact .refl s

theorem State.dropMessage_keeps (m : Message) (o : OutcomeCode) : s.Keeps (s.dropMessage m o) :=
  (s.routeMade_keeps _).ite (.refl s)

theorem State.routeInbound_keeps (p : Port) (m : Message) : s.Keeps (s.routeInbound p m).2 := by
  unfold State.routeInbound
  split
  · split
    · cases h : s.deliver m (octet p.val) with
      | none => exact .refl s
      | some t => exact s.deliver_keeps h
    · cases h : s.deliver m (octet p.val) with
      | none => exact .refl s
      | some t => exact s.deliver_keeps h
    · exact s.routeMade_keeps _
    · exact s.matchReply_keeps m
    · exact .refl s
  · exact s.dropMessage_keeps m _
  · exact s.dropMessage_keeps m _
  · split
    · exact s.dropMessage_keeps m _
    · split
      · next room => exact s.enqueue_keeps _ _ (s.queueRoom_free room)
      · exact .refl s

theorem State.routed_keeps {p : Port} {m : Message} {w : Option WaitFor} {t : State} (h : s.routeInbound p m = (w, t)) :
    s.Keeps t := (s.routeInbound_keeps p m).of_eq (by rw [h])

theorem State.emptyHolding_keeps (p : Port) : s.Keeps (s.emptyHolding p) :=
  (s.onChannel_keeps p _ id).trans (State.onRouter_keeps _ _ id)

theorem State.holdWait_keeps (p : Port) (on : WaitFor) (waited : Nat) : s.Keeps (s.holdWait p on waited) :=
  s.onRouter_keeps _ id

theorem State.handToRouter_keeps (p : Port) (m : Message) : s.Keeps (s.handToRouter p m) := by
  unfold State.handToRouter
  split
  · next t e => exact (s.routed_keeps e).trans (t.emptyHolding_keeps p)
  · next on t e => exact (s.routed_keeps e).trans (t.holdWait_keeps p on 0)

theorem State.retryHolding_keeps (p : Port) : s.Keeps (s.retryHolding p) := by
  unfold State.retryHolding
  split
  · split
    · split
      · next t e => exact (s.routed_keeps e).trans (t.emptyHolding_keeps p)
      · next on t e => exact (s.routed_keeps e).trans (t.holdWait_keeps p on _)
    · exact .refl s
  · exact .refl s

theorem State.expireHolding_keeps (p : Port) : s.Keeps (s.expireHolding p) := by
  unfold State.expireHolding
  split
  · split
    · split
      · next t e => exact (s.routed_keeps e).trans (t.emptyHolding_keeps p)
      · next on t e =>
        exact ((s.routed_keeps e).trans (t.dropMessage_keeps _ _)).trans (State.emptyHolding_keeps _ p)
    · exact .refl s
  · exact .refl s

theorem State.tickProbes_keeps : s.Keeps s.tickProbes :=
  s.onRouter_keeps _ fun r => ⟨r.1, (List.length_map _).trans_le r.2⟩

theorem State.expireProbe_keeps : s.Keeps s.expireProbe := by
  unfold State.expireProbe
  dsimp only
  split
  · exact .refl s
  · exact (s.onRouter_keeps _ fun r => ⟨r.1, List.eraseP_sublist.length_le.trans r.2⟩).trans
      (State.requestRetire_keeps _ _ _ _ _)

theorem State.report_keeps (q : Queued) (o : OutcomeCode) (n : Nat) : s.Keeps (s.report q o n) := by
  unfold State.report
  split
  · exact s.requestRetire_keeps _ _ _ _
  · exact (State.Keeps.refl s).ite (s.dropMessage_keeps _ _)
  · exact .refl s

theorem State.flush_keeps (p : Port) : s.Keeps (s.flush p) := by
  unfold State.flush
  dsimp only
  have restarts (t : State) := t.onChannel_keeps p
    (fun _ => { senderDue := s.channels[p].senderDue, receiverDue := s.channels[p].receiverDue }) fun _ => Nat.zero_le 4
  refine (State.Keeps.trans ?_ (restarts _)).trans (State.onRouter_keeps _ _ id)
  refine State.Keeps.trans ?_ (State.Keeps.foldl (fun s q => s.report_keeps q _ _) _ _)
  have emptied := s.onChannel_keeps p (fun c => { c with inFlight := none, queue := [] }) fun _ => Nat.zero_le 4
  split
  · exact emptied.trans (State.report_keeps _ _ _ _)
  · exact emptied

theorem State.flushIf_keeps (b : Bool) (p : Port) : s.Keeps (s.flushIf b p) := (s.flush_keeps p).ite (.refl s)

end

/-! ### The control channel (07) -/

theorem Channel.startNext_queue (c : Channel) (m : PeerMarks) : (c.startNext m).queue.length ≤ c.queue.length := by
  unfold Channel.startNext
  split
  · split
    · exact le_rfl
    · next q qs e =>
      rw [e]
      exact Nat.le_succ _
  · exact le_rfl

section
variable (s : State) (p : Port)

theorem State.latchMarks_keeps : s.Keeps (s.latchMarks p) := s.onLine_keeps p _ id

theorem State.channelWork_keeps (f : State → State) (h : s.Keeps (f s)) : s.Keeps (s.channelWork p f) := by
  unfold State.channelWork
  dsimp only
  refine State.Keeps.trans ?_ (State.latchMarks_keeps _ p)
  exact h.ite (h.trans (State.onLine_keeps _ p _ id))

theorem State.startNext_keeps (m : PeerMarks) : s.Keeps (s.onChannel p fun c => c.startNext m) :=
  s.onChannel_keeps p _ fun h => (Channel.startNext_queue _ m).trans h

theorem State.senderStep_keeps : s.Keeps (s.senderStep p) := by
  unfold State.senderStep
  dsimp only
  split
  · exact s.startNext_keeps p _
  · split
    · exact .refl s
    · split
      · exact (s.onChannel_keeps p _ id).trans (State.report_keeps _ _ _ _)
      · split
        · split
          · exact s.onChannel_keeps p _ id
          · exact ((s.onChannel_keeps p _ id).trans (State.report_keeps _ _ _ _)).trans (State.startNext_keeps _ p _)
        · exact .refl s
  · exact .refl s
  · exact .refl s

theorem State.senderWork_keeps : s.Keeps (s.senderWork p) := by
  unfold State.senderWork
  split
  · have done := s.onChannel_keeps p (fun c => { c with senderDue := false }) id
    exact (done.trans (State.channelWork_keeps _ p _ (State.senderStep_keeps _ p))).ite done
  · exact .refl s

theorem State.takeTimeout_keeps : s.Keeps (s.takeTimeout p) := by
  unfold State.takeTimeout
  dsimp only
  split
  · split
    · exact s.channelWork_keeps p _ ((s.onChannel_keeps p _ id).trans (State.report_keeps _ _ _ _))
    · exact .refl s
  · exact .refl s

theorem State.quitTimerExpiry_keeps : s.Keeps (s.quitTimerExpiry p) :=
  (s.channelWork_keeps p _ (s.onChannel_keeps p (fun c => c.senderIdle.startNext (s.peer p)) fun h =>
    (Channel.startNext_queue s.channels[p].senderIdle _).trans h)).ite (.refl s)

theorem State.completeMessage_keeps (m : PeerMarks) : s.Keeps (s.completeMessage p m) := by
  unfold State.completeMessage
  dsimp only
  have held := s.onChannel_keeps p (fun c => { c with
    take := m.offer, partialMsg := [], stallTimer := none, receiver := .idle
    holding := messageOf (s.channels[p].partialMsg ++ [m.byte]) }) id
  split
  · exact held.ite (held.trans (State.handToRouter_keeps _ p _))
  · exact held

theorem State.receiverStep_keeps : s.Keeps (s.receiverStep p) := by
  unfold State.receiverStep
  dsimp only
  split
  · exact .refl s
  · split
    · refine s.onChannel_keeps p _ fun h => ?_
      split <;> exact h
    · split
      · exact .refl s
      · split
        · split
          · exact .refl s
          · exact (s.onChannel_keeps p _ id).ite (s.onChannel_keeps p _ id)
        · split
          · exact s.onChannel_keeps p _ id
          · exact s.onChannel_keeps p _ id
          · exact s.completeMessage_keeps p _
        · exact .refl s

theorem State.receiverWork_keeps : s.Keeps (s.receiverWork p) := by
  unfold State.receiverWork
  split
  · have done := s.onChannel_keeps p (fun c => { c with receiverDue := false }) id
    exact (done.trans (State.channelWork_keeps _ p _ (State.receiverStep_keeps _ p))).ite done
  · exact .refl s

theorem State.stallTimerExpiry_keeps : s.Keeps (s.stallTimerExpiry p) :=
  (s.channelWork_keeps p _ (s.onChannel_keeps p _ id)).ite (.refl s)

theorem State.haltTimerExpiry_keeps : s.Keeps (s.haltTimerExpiry p) :=
  (s.channelWork_keeps p _ ((s.onChannel_keeps p _ id).trans (State.receiverStep_keeps _ p))).ite (.refl s)

end

/-! ### The port lines (02) -/

section
variable (s : State) (p : Port)

theorem State.moveLine_keeps (f : LineUnit → LineUnit) (h : s.lines[p].InRange → (f s.lines[p]).InRange) :
    s.Keeps (s.moveLine p f) := (s.onLine_keeps p f h).trans (State.raise_keeps _ _)

theorem State.latchLine_keeps : s.Keeps (s.latchLine p) := s.onLine_keeps p _ id

theorem State.toLost_keeps : s.Keeps (s.toLost p) :=
  (s.moveLine_keeps p _ fun _ => ⟨Nat.zero_le 8, Nat.zero_le 4⟩).trans (State.flushIf_keeps _ _ p)

theorem State.toQuiet_keeps (loop : Bool) : s.Keeps (s.toQuiet p loop) :=
  (s.moveLine_keeps p _ fun _ => ⟨Nat.zero_le 8, Nat.zero_le 4⟩).trans (State.flushIf_keeps _ _ p)

theorem State.toOff_keeps : s.Keeps (s.toOff p) :=
  (s.moveLine_keeps p _ fun _ => ⟨Nat.zero_le 8, Nat.zero_le 4⟩).trans (State.flushIf_keeps _ _ p)

theorem State.toReady_keeps : s.Keeps (s.toReady p) :=
  (s.moveLine_keeps p _ fun _ => ⟨Nat.zero_le 8, Nat.zero_le 4⟩).trans
    (State.onChannel_keeps _ p _ fun _ => show 1 ≤ 4 by decide)

theorem State.wakeCountReady_keeps : s.Keeps (s.wakeCountReady p) :=
  (((s.toReady_keeps p).trans (State.latchLine_keeps _ p)).trans (State.latchMarks_keeps _ p)).ite (.refl s)

theorem State.quietCountLoss_keeps : s.Keeps (s.quietCountLoss p) :=
  ((s.toLost_keeps p).trans (State.latchLine_keeps _ p)).ite (.refl s)

theorem State.identifyTimeout_keeps : s.Keeps (s.identifyTimeout p) :=
  ((s.toLost_keeps p).trans (State.latchLine_keeps _ p)).ite (.refl s)

theorem State.lostTimerExpiry_keeps : s.Keeps (s.lostTimerExpiry p) :=
  ((s.toQuiet_keeps p _).trans (State.latchLine_keeps _ p)).ite (.refl s)

theorem State.identify_keeps : s.Keeps (s.identify p) := by
  unfold State.identify
  split
  · exact .refl s
  · split
    · exact .refl s
    · have emptied := s.onChannel_keeps p (fun c => { c with holding := none }) id
      dsimp only
      split
      · exact ((emptied.trans (State.moveLine_keeps _ p _ fun _ => ⟨Nat.zero_le 8, Nat.zero_le 4⟩)).trans
          (State.latchLine_keeps _ p)).ite emptied
      · exact (emptied.trans (State.moveLine_keeps _ p _ id)).ite emptied
      · exact emptied
      · exact emptied
      · exact emptied
      · exact emptied

theorem State.alignedEvent_keeps : s.Keeps (s.alignedEvent p) := by
  unfold State.alignedEvent
  dsimp only
  split
  · have aligned := s.onLine_keeps p (fun l => { l with rx := { l.rx with status := .aligned, missCount := 0 } }) id
    exact (aligned.trans (State.moveLine_keeps _ p _ fun _ => ⟨Nat.zero_le 8, Nat.zero_le 4⟩)).ite aligned
  · exact .refl s

theorem State.misalignedEvent_keeps : s.Keeps (s.misalignedEvent p) := by
  unfold State.misalignedEvent
  dsimp only
  split
  · have hunts := s.onLine_keeps p
      (fun l => { l with rx := { l.rx with status := .hunting, markCount := 0, candidate := none, latest := none } }) id
    exact (hunts.trans (State.toLost_keeps _ p)).ite hunts
  · exact .refl s

theorem State.settleReceiver_keeps : s.Keeps (s.settleReceiver p) :=
  (s.alignedEvent_keeps p).trans (State.misalignedEvent_keeps _ p)

theorem State.loopArrive_keeps (position : Fin 256) : s.Keeps (s.loopArrive p position) :=
  ((s.settleReceiver_keeps p).trans (State.onLine_keeps _ p _ id)).ite (.refl s)

theorem State.receiveFrame_keeps (mark : Bool) (octets : Frame) : s.Keeps (s.receiveFrame p mark octets) :=
  ((State.Keeps.refl s).ite (s.loopArrive_keeps p 0)).ite
    ((s.settleReceiver_keeps p).trans (State.onLine_keeps _ p _ id))

theorem State.candidateMark_keeps (position : Fin 256) : s.Keeps (s.candidateMark p position) :=
  ((s.loopArrive_keeps p position).ite (.refl s)).ite
    ((s.settleReceiver_keeps p).trans (State.onLine_keeps _ p _ id))

theorem LineUnit.countPeer_inRange (l : LineUnit) (h : l.InRange) : l.countPeer.InRange := by
  unfold LineUnit.countPeer
  split
  · split
    · exact ⟨Nat.min_le_left 8 _, Nat.zero_le 4⟩
    · exact ⟨Nat.min_le_left 8 _, Nat.zero_le 4⟩
    · refine ⟨Nat.zero_le 8, ?_⟩
      dsimp only
      split
      · exact Nat.min_le_left 4 _
      · exact h.2
  · exact h

theorem State.edgePort_keeps : s.Keeps (s.edgePort p) :=
  (s.onLine_keeps p (fun l => l.edge (s.sentFrame p)) fun h => LineUnit.countPeer_inRange _ h).trans
    (State.onChannel_keeps _ p _ id)

theorem State.portStatusWrite_keeps : s.Keeps (s.portStatusWrite p) :=
  (((s.onLine_keeps p _ id).trans (State.writeWord_only _ _ _).keeps).trans (State.raiseIf_keeps _ _ _)).ite (.refl s)

theorem State.settleLine_keeps : s.Keeps (s.settleLine p) :=
  (s.loopArrive_keeps p 0).trans (State.settleReceiver_keeps _ p)

end

end Sys2Proof.Machine
end

section
/-! PROOFS. What the activity monitor, the scan unit, the streams and supervision keep. -/

namespace Sys2Proof.Machine

/-! ### The activity monitor (04) -/

theorem SlotActivity.classify_hang (onset hang : Nat) (e : SlotActivity) (h : hang ≤ 255) (he : e.hang ≤ 255) :
    (e.classify onset hang).hang ≤ 255 := by
  unfold SlotActivity.classify
  split
  · exact h
  · split
    · split
      · exact (Nat.sub_le _ _).trans he
      · exact Nat.zero_le _
    · exact he

section
variable (s : State)

theorem State.judgeOctets_keeps : s.Keeps s.judgeOctets := by
  refine s.onActivity_keeps _ fun a => ⟨a.threshold, a.onset, a.hang, fun k => ?_⟩
  rw [tabulate_get]
  split <;> exact a.slots k

theorem State.judgeWork_keeps : s.Keeps s.judgeWork := s.judgeOctets_keeps.ite (.refl s)

theorem State.classify_keeps : s.Keeps s.classify := by
  unfold State.classify
  split
  · refine State.Keeps.trans ?_ (State.raiseIf_keeps _ _ _)
    refine s.onActivity_keeps _ fun a => ⟨a.threshold, a.onset, a.hang, fun k => ?_⟩
    dsimp only
    rw [Activity.classified, mapAll_get]
    exact SlotActivity.classify_hang _ _ _ a.hang (a.slots k)
  · exact .refl s

theorem State.activityBlock_keeps : s.Keeps s.activityBlock := s.classify_keeps.trans (State.judgeWork_keeps _)

theorem State.endImage_keeps (failed : Bool) : s.Keeps (s.endImage failed) :=
  ((s.onActivity_keeps _ fun a => ⟨a.threshold, a.onset, a.hang, a.slots⟩).trans (State.raiseIf_keeps _ _ _)).trans
    (State.raiseIf_keeps _ _ _)

theorem State.imageWords_keeps (k j : Nat) : s.Keeps (s.imageWords k j) := by
  induction k generalizing s j with
  | zero => exact .refl s
  | succ k ih =>
    have written := (s.writeWord_only (BitVec.ofNat 20 (0x20 + 4 * j)) (s.activity.imageWord j)).keeps
    unfold State.imageWords
    dsimp only
    refine (written.trans (State.endImage_keeps _ _)).ite ((written.trans (State.endImage_keeps _ _)).ite ?_)
    exact (written.trans (State.onActivity_keeps _ _ fun a => ⟨a.threshold, a.onset, a.hang, a.slots⟩)).trans (ih _ _)

theorem State.activityImageWrite_keeps (words : Nat) : s.Keeps (s.activityImageWrite words) := by
  unfold State.activityImageWrite
  split
  · split
    · exact s.imageWords_keeps _ _
    · have begun := s.onActivity_keeps Activity.beginImage fun a => ⟨a.threshold, a.onset, a.hang, a.slots⟩
      exact (begun.trans (State.imageWords_keeps _ _ _)).ite (.refl s)
  · exact .refl s

theorem State.setActivity_keeps (r : WorkRecord) : s.Keeps (s.setActivity r).2.2 := by
  unfold State.setActivity
  dsimp only
  split
  · exact .refl s
  · split
    · exact .refl s
    · next threshold onset =>
      have hang : (r.byte 0 2).toNat ≤ 255 := Nat.le_of_lt_succ (BitVec.isLt _)
      refine s.onActivity_keeps (fun a => { a with
        threshold := (r.byte 0 0).toNat, onset := (r.byte 0 1).toNat, hang := (r.byte 0 2).toNat, watch := r.watchSet })
        fun a => ⟨?_, ?_, hang, a.slots⟩
      · dsimp only; omega
      · dsimp only; omega

end

/-! ### The scan unit (05) -/

theorem ScanGroup.eligibleAt_dwell {a : Activity} {g : ScanGroup} {i : Nat} (h : g.eligibleAt a i = true) :
    i < g.members.length ∧ 1 ≤ g.dwellAt i ∧ (g.InRange → g.dwellAt i ≤ 255) := by
  have inside := ScanGroup.eligibleAt_lt h
  have found : g.members[i]? = some g.members[i] := List.getElem?_eq_getElem inside
  unfold ScanGroup.eligibleAt Activity.eligible at h
  simp only [found, Bool.and_eq_true, decide_eq_true_eq] at h
  unfold ScanGroup.dwellAt
  rw [found]
  exact ⟨inside, h.1, fun range => range.2.1 _ (List.getElem_mem inside)⟩

theorem ScanGroup.choose_inRange {a : Activity} {g : ScanGroup} {i : Nat} (h : g.eligibleAt a i = true) (range : g.InRange) :
    (g.choose i).InRange := by
  obtain ⟨inside, dwells, dwell⟩ := ScanGroup.eligibleAt_dwell h
  refine ⟨range.1, range.2.1, fun j hj => ?_⟩
  cases hj
  exact ⟨inside, dwells, dwell range⟩

theorem ScanGroup.searchIn_inRange (a : Activity) (g : ScanGroup) (order : List Nat) (range : g.members.length ≤ 8)
    (dwells : ∀ m ∈ g.members, m.dwell ≤ 255) : (g.searchIn a order).InRange := by
  unfold ScanGroup.searchIn
  split
  · next i found =>
    obtain ⟨inside, positive, -⟩ := ScanGroup.eligibleAt_dwell (List.find?_some (p := fun i => g.eligibleAt a i) found)
    refine ⟨range, dwells, fun j hj => ?_⟩
    cases hj
    refine ⟨inside, positive, ?_⟩
    show g.dwellAt i ≤ 255
    rw [ScanGroup.dwellAt, List.getElem?_eq_getElem inside]
    exact dwells _ (List.getElem_mem inside)
  · exact ⟨range, dwells, fun j hj => nomatch hj⟩

theorem ScanGroup.search_inRange (a : Activity) (g : ScanGroup) (range : g.members.length ≤ 8)
    (dwells : ∀ m ∈ g.members, m.dwell ≤ 255) : (g.search a).InRange := by
  unfold ScanGroup.search
  split
  · exact g.searchIn_inRange a _ range dwells
  · exact g.searchIn_inRange a _ range dwells

theorem ScanGroup.step_inRange (a : Activity) (g : ScanGroup) (range : g.InRange) : (g.step a).InRange := by
  unfold ScanGroup.step
  split
  · exact range
  · split
    · next cur running =>
      unfold ScanGroup.lower
      dsimp only
      split
      · exact ScanGroup.search_inRange a _ range.1 range.2.1
      · next stays =>
        refine ⟨range.1, range.2.1, fun i hi => ?_⟩
        obtain ⟨inside, -, dwell⟩ := range.2.2 i hi
        exact ⟨inside, Nat.one_le_iff_ne_zero.2 fun zero => stays (.inl zero), (Nat.sub_le _ _).trans dwell⟩
    · exact g.search_inRange a range.1 range.2.1

theorem ScanGroup.searchIn_members (a : Activity) (g : ScanGroup) (order : List Nat) :
    (g.searchIn a order).members = g.members := by
  unfold ScanGroup.searchIn
  split <;> rfl

theorem ScanGroup.search_members (a : Activity) (g : ScanGroup) : (g.search a).members = g.members := by
  unfold ScanGroup.search
  split <;> exact g.searchIn_members a _

theorem ScanGroup.step_members (a : Activity) (g : ScanGroup) : (g.step a).members = g.members := by
  unfold ScanGroup.step
  split
  · rfl
  · split
    · unfold ScanGroup.lower
      dsimp only
      split
      · exact ScanGroup.search_members a _
      · rfl
    · exact g.search_members a

theorem ScanGroup.control_ok {a : Activity} {g t : ScanGroup} {action index : Nat} (h : g.control a action index = .ok t) :
    t.members = g.members ∧ (g.InRange → t.InRange) := by
  unfold ScanGroup.control at h
  split at h
  · cases h; exact ⟨rfl, id⟩
  · split at h
    · cases h; exact ⟨rfl, id⟩
    · split at h
      · cases h; exact ⟨g.search_members a, fun range => g.search_inRange a range.1 range.2.1⟩
      · split at h
        · split at h
          · cases h
          · split at h
            · next eligible => cases h; exact ⟨rfl, ScanGroup.choose_inRange eligible⟩
            · cases h
        · cases h

section
variable (s : State)

theorem State.scanStep_keeps : s.Keeps s.scanStep := by
  unfold State.scanStep
  split
  · have marks := (s.onTimer_keeps (fun t => { t with scanDue := false }) rfl).trans
      (State.onSwitch_keeps _ (fun w => { w with scanAhead := Vector.replicate 8 false }) rfl rfl rfl .inl)
    refine marks.trans (State.groups_keeps _ _ (fun g range => ?_) fun g => ?_)
    · rw [mapAll_get]; exact ScanGroup.step_inRange _ _ range
    · rw [mapAll_get]; exact ScanGroup.step_members _ _
  · exact .refl s

theorem State.readBeforeTake_keeps (g : GroupNo) : s.Keeps (s.readBeforeTake g) :=
  (s.onSwitch_keeps _ rfl rfl rfl .inl).ite (.refl s)

theorem State.readBeforeTake_groups (g : GroupNo) : (s.readBeforeTake g).groups = s.groups := by
  rw [State.readBeforeTake_only]

theorem State.readBeforeControl_keeps (g : GroupNo) (action : Nat) : s.Keeps (s.readBeforeControl g action) :=
  (State.Keeps.refl s).ite (s.readBeforeTake_keeps g)

theorem State.readBeforeControl_groups (g : GroupNo) (action : Nat) : (s.readBeforeControl g action).groups = s.groups := by
  unfold State.readBeforeControl
  split
  · rfl
  · exact s.readBeforeTake_groups g

theorem State.scanControl_keeps (r : WorkRecord) : s.Keeps (s.scanControl r).2.2 := by
  unfold State.scanControl
  split
  · dsimp only
    split
    · exact .refl s
    · next t e =>
      obtain ⟨members, range⟩ := ScanGroup.control_ok e
      refine (s.readBeforeControl_keeps _ _).trans (State.onGroup_keeps _ _ _ ?_ ?_)
      · rw [s.readBeforeControl_groups]; exact range
      · rw [s.readBeforeControl_groups]; exact members
  · exact .refl s

end

/-! ### The members of a group and their references (05 R97) -/

theorem State.refLosses_streams (ns : List StreamNo) (s : State) (n : StreamNo) :
    (ns.foldl State.refLoss s).streams[n] = { s.streams[n] with refs := s.streams[n].refs - ns.count n } := by
  induction ns generalizing s with
  | nil => rfl
  | cons m ns ih =>
    rw [List.foldl_cons, ih, State.refLoss_streams]
    by_cases same : m = n
    · subst same
      rw [updAt_same, List.count_cons_self, Nat.add_comm, Nat.sub_add_eq]
    · rw [updAt_other _ _ _ _ same, List.count_cons_of_ne same]

theorem State.refGains_streams (ns : List StreamNo) (s : State) (n : StreamNo) :
    (ns.foldl State.refGain s).streams[n] = { s.streams[n] with refs := s.streams[n].refs + ns.count n } := by
  induction ns generalizing s with
  | nil => rfl
  | cons m ns ih =>
    rw [List.foldl_cons, ih, State.refGain_streams]
    by_cases same : m = n
    · subst same
      rw [updAt_same, List.count_cons_self, Nat.add_assoc, Nat.add_comm 1]
    · rw [updAt_other _ _ _ _ same, List.count_cons_of_ne same]

theorem State.refLosses_only (ns : List StreamNo) (s : State) :
    ns.foldl State.refLoss s = { s with streams := (ns.foldl State.refLoss s).streams } := by
  induction ns generalizing s with
  | nil => rfl
  | cons m ns ih => rw [List.foldl_cons, ih]; rfl

theorem State.refGains_only (ns : List StreamNo) (s : State) :
    ns.foldl State.refGain s = { s with streams := (ns.foldl State.refGain s).streams } := by
  induction ns generalizing s with
  | nil => rfl
  | cons m ns ih => rw [List.foldl_cons, ih]; rfl

/-- The members that name a stream, counted as the law of references counts them. -/
theorem count_memberStreams (ms : List Member) (n : StreamNo) :
    (ms.filterMap fun m => m.source.stream?).count n = ms.countP fun m => m.source == .stream n := by
  rw [List.count, List.countP_filterMap]
  refine List.countP_congr fun m _ => ?_
  cases m.source <;> simp [MemberSource.stream?]

/-- The streams after a group's members are replaced: the losses of the old list, then the gains of the new one. -/
theorem State.memberStreams (s : State) (old new : List Member) (n : StreamNo) :
    ((s.memberLosses old).memberGains new).streams[n] = { s.streams[n] with
      refs := s.streams[n].refs - (old.countP fun m => m.source == .stream n) + new.countP fun m => m.source == .stream n } := by
  rw [State.memberGains, State.refGains_streams, State.memberLosses, State.refLosses_streams, count_memberStreams,
    count_memberStreams]

theorem State.memberStreams_only (s : State) (old new : List Member) :
    (s.memberLosses old).memberGains new = { s with streams := ((s.memberLosses old).memberGains new).streams } := by
  have losses := State.refLosses_only (old.filterMap fun m => m.source.stream?) s
  have gains := State.refGains_only (new.filterMap fun m => m.source.stream?) (s.memberLosses old)
  unfold State.memberGains
  rw [gains]
  unfold State.memberLosses
  rw [losses]

theorem parseMember_dwell {w : Word} {m : Member} (h : parseMember w = .ok m) : m.dwell ≤ 255 := by
  have octet : (wordByte w 3).toNat ≤ 255 := Nat.le_of_lt_succ (BitVec.isLt _)
  unfold parseMember at h
  dsimp only at h
  split at h
  · split at h
    · cases h
    · cases h; exact octet
  · split at h
    · cases h; exact octet
    · cases h
  · cases h

theorem State.checkMembers_ok (s : State) {ws : List Word} {k : Nat} {ms : List Member} (h : s.checkMembers k ws = .ok ms) :
    ms.length = ws.length ∧ (∀ m ∈ ms, m.dwell ≤ 255) ∧
    ∀ m ∈ ms, ∀ n, m.source = .stream n → s.isOpenFeed n = true := by
  induction ws generalizing k ms with
  | nil => cases h; simp
  | cons w ws ih =>
    unfold State.checkMembers at h
    split at h
    · cases h
    · next m parsed =>
      split at h
      · next ok =>
        split at h
        · cases h
        · next rest e =>
          cases h
          obtain ⟨length, dwells, feeds⟩ := ih e
          refine ⟨congrArg (· + 1) length, List.forall_mem_cons.2 ⟨parseMember_dwell parsed, dwells⟩,
            List.forall_mem_cons.2 ⟨fun n names => ?_, feeds⟩⟩
          simpa [State.memberStreamOk, names, MemberSource.stream?] using ok
      · cases h

theorem State.checkSetScan_ok (s : State) {r : WorkRecord} {g : GroupNo} {ms : List Member}
    (h : s.checkSetScan r = .ok (g, ms)) : ms.length ≤ 8 ∧ (∀ m ∈ ms, m.dwell ≤ 255) ∧
      ∀ m ∈ ms, ∀ n, m.source = .stream n → s.isOpenFeed n = true := by
  unfold State.checkSetScan at h
  dsimp only at h
  split at h
  · split at h
    · cases h
    · next count =>
      split at h
      · cases h
      · split at h
        · cases h
        · next ms' e =>
          cases h
          obtain ⟨length, rest⟩ := s.checkMembers_ok e
          refine ⟨?_, rest⟩
          rw [length, List.length_map, List.length_range]
          omega
  · cases h

/-- A sum over a table with one entry changed. -/
theorem sum_map_update {n : Nat} (f f' : Fin n → Nat) (i : Fin n) (h : ∀ j, j ≠ i → f' j = f j) :
    ((List.finRange n).map f').sum + f i = ((List.finRange n).map f).sum + f' i := by
  have total (f : Fin n → Nat) : ((List.finRange n).map f).sum = ∑ j, f j := (Fin.sum_univ_def f).symm
  have split (f : Fin n → Nat) := Finset.add_sum_erase Finset.univ f (Finset.mem_univ i)
  have rest : ∑ j ∈ Finset.univ.erase i, f' j = ∑ j ∈ Finset.univ.erase i, f j :=
    Finset.sum_congr rfl fun j hj => h j (Finset.ne_of_mem_erase hj)
  rw [total, total, ← split f, ← split f', rest]
  omega

/-- A group's members replaced, with the references lost and gained, keep the law of references. -/
theorem State.replaceMembers_refs (s : State) (g : GroupNo) (new : ScanGroup) (ms : List Member) (hm : new.members = ms)
    (feeds : ∀ m ∈ ms, ∀ n, m.source = .stream n → s.isOpenFeed n = true) (h : ReferencesCounted s) :
    ReferencesCounted (((s.memberLosses s.groups[g].members).memberGains ms).onGroup g fun _ => new) := by
  subst hm
  obtain ⟨counted, rest⟩ := h
  rw [State.memberStreams_only]
  refine ⟨fun n => ?_, rest⟩
  obtain ⟨total, used⟩ := counted n
  have streams := s.memberStreams s.groups[g].members new.members n
  set t := ((s.memberLosses s.groups[g].members).memberGains new.members).streams with ht
  have names := sum_map_update (fun j : Fin 8 => s.groups[j].members.countP fun m => m.source == .stream n)
    (fun j : Fin 8 => (updAt s.groups g fun _ => new)[j].members.countP fun m => m.source == .stream n) g fun j other => by
      rw [updAt_other _ _ _ _ (Ne.symm other)]
  rw [updAt_same] at names
  have least : (s.groups[g].members.countP fun m => m.source == .stream n) ≤
      ((List.finRange 8).map fun j => s.groups[j].members.countP fun m => m.source == .stream n).sum :=
    List.single_le_sum (fun _ _ => Nat.zero_le _) _ (List.mem_map.2 ⟨g, List.mem_finRange g, rfl⟩)
  rw [references_eq] at total
  constructor
  · show t[n].refs = _
    rw [streams, references_eq]
    dsimp only [State.onGroup]
    omega
  · show 0 < t[n].refs → _
    rw [State.isOpenFeed_eq]
    show _ → ((t[n].desc.map StreamDesc.dir == some .feed) = true)
    rw [streams]
    dsimp only
    intro positive
    rw [← State.isOpenFeed_eq]
    by_cases before : 0 < s.streams[n].refs
    · exact used before
    · have gained : 0 < new.members.countP fun m => m.source == .stream n := by omega
      obtain ⟨m, mem, names⟩ := List.countP_pos_iff.1 gained
      exact feeds m mem n (by simpa using names)

theorem State.setScan_keeps (s : State) (r : WorkRecord) : s.Keeps (s.setScan r).2.2 := by
  unfold State.setScan
  split
  · exact .refl s
  · next g ms e =>
    obtain ⟨length, dwells, feeds⟩ := s.checkSetScan_ok e
    have reads := s.readBeforeTake_keeps g
    have feeds' : ∀ m ∈ ms, ∀ n, m.source = .stream n → (s.readBeforeTake g).isOpenFeed n = true := by
      rw [s.readBeforeTake_only]; exact feeds
    refine reads.trans ?_
    rw [← s.readBeforeTake_groups g]
    generalize s.readBeforeTake g = t at feeds'
    dsimp only
    have only := t.memberStreams_only t.groups[g].members ms
    set u := (t.memberLosses t.groups[g].members).memberGains ms with hu
    have placed (a : Activity) (fresh : ScanGroup) (h : fresh.members = ms) :
        (fresh.searchIn a fresh.fromStart).InRange ∧ (fresh.searchIn a fresh.fromStart).members = ms :=
      ⟨fresh.searchIn_inRange a _ (h ▸ length) (h ▸ dwells), (fresh.searchIn_members a _).trans h⟩
    obtain ⟨range, members⟩ := placed u.activity
      { members := ms, skipSilent := (r.byte 0 2).getLsbD 0, hold := (r.byte 0 2).getLsbD 1 } rfl
    refine ⟨by rw [only]; rfl, by rw [only]; rfl, by rw [only]; exact id, fun b => ?_, by rw [only]; exact fun _ => id, fun h => ?_⟩
    · rw [only]
      exact ⟨b.queues, b.lines, b.router, forall_updAt b.groups fun _ => only ▸ range, b.activity, b.supervision⟩
    · exact t.replaceMembers_refs g _ ms members feeds' h

end Sys2Proof.Machine
end

section
/-! PROOFS. What the stream engine keeps. -/

namespace Sys2Proof.Machine

/-! ### The streams (06) -/

/-- An invariant-keeping part of the stream engine, which also leaves every reference count. -/
structure State.KeepsRefs (s t : State) : Prop extends s.Keeps t where
  counts : ∀ n : StreamNo, t.streams[n].refs = s.streams[n].refs

theorem State.KeepsRefs.refl (s : State) : s.KeepsRefs s := ⟨.refl s, fun _ => rfl⟩

theorem State.KeepsRefs.trans {s t u : State} (h : s.KeepsRefs t) (k : t.KeepsRefs u) : s.KeepsRefs u :=
  ⟨h.toKeeps.trans k.toKeeps, fun n => (k.counts n).trans (h.counts n)⟩

theorem State.KeepsRefs.foldl {α : Type} {f : State → α → State} (h : ∀ (s : State) a, s.KeepsRefs (f s a)) (l : List α)
    (s : State) : s.KeepsRefs (l.foldl f s) := by
  induction l generalizing s with
  | nil => exact .refl s
  | cons a l ih => exact (h s a).trans (ih _)

theorem State.KeepsRefs.ite {c : Prop} [Decidable c] {s t u : State} (h : s.KeepsRefs t) (k : s.KeepsRefs u) :
    s.KeepsRefs (if c then t else u) := by
  split
  · exact h
  · exact k

theorem State.KeepsRefs.of_eq {s t u : State} (h : s.KeepsRefs t) (e : u = t) : s.KeepsRefs u := e ▸ h

theorem State.OnlyMemory.keepsRefs {s t : State} (h : s.OnlyMemory t) : s.KeepsRefs t :=
  ⟨h.keeps, fun n => by rw [h.rest]⟩

theorem State.raise_keepsRefs (s : State) (c : Cause) : s.KeepsRefs (s.raise c) := ⟨s.raise_keeps c, fun _ => rfl⟩

theorem State.raiseIf_keepsRefs (s : State) (b : Bool) (c : Cause) : s.KeepsRefs (s.raiseIf b c) := by
  cases b with
  | true => exact s.raise_keepsRefs c
  | false => exact .refl s

theorem State.onStream_keepsRefs (s : State) (n : StreamNo) (f : Stream → Stream) (h : s.streams[n].NamedAlike (f s.streams[n])) :
    s.KeepsRefs (s.onStream n f) := by
  refine ⟨s.onStream_keeps n f h, fun m => ?_⟩
  show (updAt s.streams n f)[m].refs = _
  by_cases same : n = m
  · subst same
    rw [updAt_same]
    exact h.1
  · rw [updAt_other _ _ _ _ same]

section
variable (s : State) (n : StreamNo)

/-- A change of a descriptor that leaves its direction. -/
theorem State.onDesc_keepsRefs (f : StreamDesc → StreamDesc) (h : ∀ d, (f d).dir = d.dir) : s.KeepsRefs (s.onDesc n f) := by
  refine s.onStream_keepsRefs n _ ⟨rfl, ?_⟩
  dsimp only
  rw [Option.map_map]
  exact congrArg (Option.map · _) (funext h)

theorem State.frameDone_keepsRefs : s.KeepsRefs (s.frameDone n) := s.onStream_keepsRefs n _ ⟨rfl, rfl⟩

theorem State.setCurrent_keepsRefs (o : Octet) : s.KeepsRefs (s.setCurrent n o) := s.onStream_keepsRefs n _ ⟨rfl, rfl⟩

theorem State.faultStream_keepsRefs (d : StreamDesc) (atStatusBlock : Bool) : s.KeepsRefs (s.faultStream n d atStatusBlock) := by
  unfold State.faultStream
  dsimp only
  refine (State.KeepsRefs.trans ?_ (State.raise_keepsRefs _ _)).trans (State.raise_keepsRefs _ _)
  have faulted := s.onDesc_keepsRefs n
    (fun d => { d with status := .fault, accesses := [], finished := false, buffer := [], resumeDue := false }) fun _ => rfl
  exact faulted.ite (faulted.trans (State.exchange_only _ _ _).keepsRefs)

theorem StreamDesc.place_dir (d : StreamDesc) (o : Octet) : (d.place o).dir = d.dir := by
  unfold StreamDesc.place
  dsimp only
  split <;> split <;> rfl

theorem StreamDesc.play_dir (d : StreamDesc) : d.play.dir = d.dir := by
  unfold StreamDesc.play
  dsimp only
  split
  · rfl
  · split <;> rfl

theorem StreamDesc.issueResume_dir (d : StreamDesc) : d.issueResume.dir = d.dir := by
  unfold StreamDesc.issueResume
  split <;> rfl

theorem State.tapOctet_keepsRefs (k : SlotIndex) : s.KeepsRefs (s.tapOctet n k) := s.onDesc_keepsRefs n _ fun d => d.place_dir _

theorem State.streamWork_keepsRefs : s.KeepsRefs (s.streamWork n) := by
  unfold State.streamWork
  split
  · split
    · exact s.frameDone_keepsRefs n
    · split
      · exact ((s.tapOctet_keepsRefs n _).trans (State.frameDone_keepsRefs _ n)).ite ((State.KeepsRefs.refl s).ite (s.frameDone_keepsRefs n))
      · exact (((s.setCurrent_keepsRefs n _).trans (State.onDesc_keepsRefs _ n _ StreamDesc.play_dir)).trans
          (State.frameDone_keepsRefs _ n)).ite ((s.setCurrent_keepsRefs n _).trans (State.frameDone_keepsRefs _ n))
  · exact .refl s

theorem State.exchanged_keepsRefs {off : Offset} {f : Word → Word} {w : Option Word} {t : State} (h : s.exchange off f = (w, t)) :
    s.KeepsRefs t := (s.exchange_only off f).keepsRefs.of_eq (by rw [h])

theorem State.resumeExchange_keepsRefs (d : StreamDesc) (late : Bool) : s.KeepsRefs (s.resumeExchange n d late) := by
  unfold State.resumeExchange
  split
  · next t e => exact (s.exchanged_keepsRefs e).trans (t.faultStream_keepsRefs n _ _)
  · next w t e =>
    refine (s.exchanged_keepsRefs e).trans ?_
    split
    · have resumed := t.onDesc_keepsRefs n StreamDesc.resumed fun _ => rfl
      refine resumed.trans ?_
      split
      · exact ((State.tapOctet_keepsRefs _ n _).ite (.refl _)).trans (State.frameDone_keepsRefs _ n)
      · exact ((State.onDesc_keepsRefs _ n StreamDesc.readFirst fun _ => rfl).trans (State.setCurrent_keepsRefs _ n _)).trans
          (State.frameDone_keepsRefs _ n)
    · exact .refl t

theorem State.completeAccess_keepsRefs : s.KeepsRefs (s.completeAccess n) := by
  unfold State.completeAccess
  split
  · exact .refl s
  · split
    · exact .refl s
    · next d a rest e =>
      have ended := s.onDesc_keepsRefs n (fun d => { d with accesses := rest }) fun _ => rfl
      refine ended.trans ?_
      dsimp only
      split
      · exact State.KeepsRefs.ite (State.writeWord_only _ _ _).keepsRefs
          ((State.writeWord_only _ _ _).keepsRefs.trans (State.faultStream_keepsRefs _ n _ _))
      · split
        · next w t e =>
          exact ((State.readWord_only _ _).keepsRefs.of_eq (by rw [e])).trans (t.onDesc_keepsRefs n _ fun _ => rfl)
        · next t e =>
          exact ((State.readWord_only _ _).keepsRefs.of_eq (by rw [e])).trans (t.faultStream_keepsRefs n _ _)
      · exact State.resumeExchange_keepsRefs _ n _ _

theorem State.endAccess_keepsRefs : s.KeepsRefs (s.endAccess n) := by
  unfold State.endAccess
  split
  · exact .refl s
  · exact ((s.streamWork_keepsRefs n).trans (State.completeAccess_keepsRefs _ n)).ite (s.completeAccess_keepsRefs n)

theorem State.drain_keepsRefs : s.KeepsRefs (s.drain n) := by
  unfold State.drain
  split
  · exact .refl s
  · exact State.KeepsRefs.foldl (fun s _ => s.completeAccess_keepsRefs n) _ s

theorem State.blockStream_keepsRefs (late : List StreamNo) : s.KeepsRefs (s.blockStream late n) := by
  unfold State.blockStream
  split
  · exact .refl s
  · have issued := s.onDesc_keepsRefs n StreamDesc.issueResume StreamDesc.issueResume_dir
    exact (issued.ite (issued.trans (State.completeAccess_keepsRefs _ n))).ite (.refl s)

theorem State.missedBoundary_keepsRefs : s.KeepsRefs (s.missedBoundary n) :=
  ((s.setCurrent_keepsRefs n _).trans (State.frameDone_keepsRefs _ n)).ite (.refl s)

theorem State.handover_keepsRefs : s.KeepsRefs (s.handover n) := by
  unfold State.handover
  split
  · exact .refl s
  · next d _ =>
    split
    · have handed := s.onDesc_keepsRefs n (fun d => { d with lastHanded := some d.half }) fun _ => rfl
      refine handed.trans ?_
      generalize s.onDesc n (fun d => { d with lastHanded := some d.half }) = t
      have written := (t.writeWord_only (d.block + 4) (statusWord1 d.len (some d.half))).keepsRefs
      dsimp only
      split
      · exact written.trans (State.faultStream_keepsRefs _ n _ _)
      · refine written.trans ?_
        split
        · next u e => exact (State.exchanged_keepsRefs _ e).trans (u.faultStream_keepsRefs n _ _)
        · next w u e =>
          refine (State.exchanged_keepsRefs _ e).trans ?_
          split
          · have turned := u.onDesc_keepsRefs n (fun d => d.turn .opened) fun _ => rfl
            have read := turned.trans (State.onDesc_keepsRefs _ n StreamDesc.readFirst fun _ => rfl)
            exact ((read.ite turned).trans (State.missedBoundary_keepsRefs _ n)).trans (State.raiseIf_keepsRefs _ _ _)
          · exact ((u.onDesc_keepsRefs n (fun d => d.turn d.dir.waiting) fun _ => rfl).trans (State.missedBoundary_keepsRefs _ n)).trans
              (State.raise_keepsRefs _ _)
    · exact .refl s

/-- A free number has no references, so it may be opened. -/
theorem State.openDesc_keeps (d : StreamDesc) (free : s.streams[n].desc = none) :
    s.Keeps (s.onStream n fun _ => { desc := some d }) := by
  refine ⟨rfl, rfl, id, fun b => ⟨b.queues, b.lines, b.router, b.groups, b.activity, b.supervision⟩, fun _ => id, fun h => ?_⟩
  obtain ⟨counted, rest⟩ := h
  have unnamed : s.streams[n].refs = 0 := by
    by_contra named
    have feed := (counted n).2 (Nat.pos_of_ne_zero named)
    rw [State.isOpenFeed_eq, free] at feed
    cases feed
  refine ⟨fun m => ?_, rest⟩
  by_cases same : n = m
  · subst same
    have total : references s n = 0 := (counted n).1.symm.trans unnamed
    show (updAt s.streams n fun _ => { desc := some d })[n].refs = references s n ∧
      (0 < (updAt s.streams n fun _ => { desc := some d })[n].refs → _)
    rw [updAt_same, total]
    exact ⟨rfl, fun positive => absurd positive (Nat.lt_irrefl 0)⟩
  · show (updAt s.streams n fun _ => { desc := some d })[m].refs = references s m ∧
      (0 < (updAt s.streams n fun _ => { desc := some d })[m].refs → State.isOpenFeed (s.onStream n _) m = true)
    rw [State.isOpenFeed_eq]
    show _ ∧ (_ → ((updAt s.streams n fun _ => { desc := some d })[m].desc.map StreamDesc.dir == some .feed) = true)
    rw [updAt_other _ _ _ _ same, ← State.isOpenFeed_eq]
    exact counted m

/-- A number without references may be freed. -/
theorem State.freeStream_keeps (unnamed : s.streams[n].refs = 0) : s.Keeps (s.freeStream n) := by
  refine ⟨rfl, rfl, id, fun b => ⟨b.queues, b.lines, b.router, b.groups, b.activity, b.supervision⟩, fun _ => id, fun h => ?_⟩
  obtain ⟨counted, rest⟩ := h
  refine ⟨fun m => ?_, rest⟩
  have freed (t : Stream) (f : Stream → Stream) (hf : f = fun t => { t with desc := none, current := idleOctet, frameDue := false }) :
      (f t).refs = t.refs := by rw [hf]
  by_cases same : n = m
  · subst same
    show (updAt s.streams n _)[n].refs = references s n ∧ (0 < (updAt s.streams n _)[n].refs → _)
    rw [updAt_same, freed _ _ rfl, unnamed, ← unnamed]
    exact ⟨(counted n).1, fun positive => absurd (unnamed ▸ positive) (Nat.lt_irrefl 0)⟩
  · show (updAt s.streams n _)[m].refs = references s m ∧
      (0 < (updAt s.streams n _)[m].refs → State.isOpenFeed (s.freeStream n) m = true)
    rw [State.isOpenFeed_eq]
    show _ ∧ (_ → ((updAt s.streams n _)[m].desc.map StreamDesc.dir == some .feed) = true)
    rw [updAt_other _ _ _ _ same, ← State.isOpenFeed_eq]
    exact counted m

end

theorem State.checkOpen_free {s : State} {r : WorkRecord} {n : StreamNo} {d : StreamDesc} (h : s.checkOpen r = .ok (n, d)) :
    s.streams[n].desc = none := by
  unfold State.checkOpen at h
  dsimp only at h
  split at h
  · split at h
    · cases h
    · split at h
      · cases h
      · next free =>
        split at h
        · cases h
        · split at h
          · cases h
          · split at h
            · cases h
            · cases h
            · cases h
            · cases h
              simpa using free
  · cases h

theorem State.openStream_keeps (s : State) (r : WorkRecord) : s.Keeps (s.openStream r).2.2 := by
  unfold State.openStream
  split
  · exact .refl s
  · next n d e =>
    have opened := s.openDesc_keeps n d (State.checkOpen_free e)
    refine opened.trans ?_
    generalize s.onStream n (fun _ => { desc := some d }) = t
    dsimp only
    split
    · next u e => exact (t.exchanged_keepsRefs e).toKeeps.trans (u.faultStream_keepsRefs n _ _).toKeeps
    · next w u e =>
      have written := (u.writeWord_only (d.block + 4) (statusWord1 0 none)).keeps
      refine (t.exchanged_keepsRefs e).toKeeps.trans ?_
      split
      · exact written.trans (State.faultStream_keepsRefs _ n _ _).toKeeps
      · have set := State.onDesc_keepsRefs (u.writeWord (d.block + 4) (statusWord1 0 none)).2 n
          (fun x => { x with status := openStatus d.dir w }) (fun _ => rfl)
        exact (written.trans set.toKeeps).trans ((State.onDesc_keepsRefs _ n StreamDesc.readFirst fun _ => rfl).toKeeps.ite (.refl _))

/-- Nothing but memory differs of a stream's reference count. -/
theorem State.OnlyMemory.refs_eq {s t : State} (h : s.OnlyMemory t) (n : StreamNo) :
    t.streams[n].refs = s.streams[n].refs := by rw [h.rest]

theorem State.closeDesc_keeps (s : State) (n : StreamNo) (d : StreamDesc) (unnamed : s.streams[n].refs = 0) :
    s.Keeps (s.closeDesc n d).2.2 := by
  have written := s.writes_only d.closeWrites
  have exchanged := State.exchange_only (s.writes d.closeWrites).2 d.block d.closeWord
  have unnamed' := (written.refs_eq n).trans unnamed
  unfold State.closeDesc
  dsimp only
  split
  · exact s.freeStream_keeps n unnamed
  · split
    · exact (written.keeps.trans (State.freeStream_keeps _ n unnamed')).trans (State.raise_keeps _ _)
    · split
      · next u e =>
        rw [e] at exchanged
        exact ((written.trans exchanged).keeps.trans
          (u.freeStream_keeps n ((exchanged.refs_eq n).trans unnamed'))).trans (State.raise_keeps _ _)
      · next u e =>
        rw [e] at exchanged
        exact (written.trans exchanged).keeps.trans (u.freeStream_keeps n ((exchanged.refs_eq n).trans unnamed'))

theorem State.closeStream_keeps (s : State) (r : WorkRecord) : s.Keeps (s.closeStream r).2.2 := by
  unfold State.closeStream
  dsimp only
  split
  · next number =>
    split
    · exact .refl s
    · split
      · exact .refl s
      · next unnamed =>
        have ended := ((s.drain_keepsRefs ⟨_, number⟩).trans (State.handover_keepsRefs _ ⟨_, number⟩)).trans
          (State.drain_keepsRefs _ ⟨_, number⟩)
        refine ended.toKeeps.trans ?_
        split
        · exact .refl _
        · exact State.closeDesc_keeps _ _ _ ((ended.counts _).trans (Nat.eq_zero_of_not_pos unnamed))
  · exact .refl s

end Sys2Proof.Machine
end

section
/-! PROOFS. What supervision keeps. -/

namespace Sys2Proof.Machine

/-! ### Supervision (09) -/

theorem Supervision.fresh_inRange {v : Supervision} (h : v.InRange) : v.fresh.InRange := by
  obtain ⟨period, threshold, pulse, count, index, position, table⟩ := h
  exact ⟨period, threshold, pulse, count, le_rfl, show 0 < 64 * v.period by omega, table⟩

theorem Supervision.goodEnd_inRange {v : Supervision} (h : v.InRange) : v.goodEnd.InRange := by
  obtain ⟨period, threshold, pulse, count, index, position, table⟩ := Supervision.fresh_inRange h
  exact ⟨period, threshold, pulse, (Nat.sub_le _ 1).trans h.errorCount, index, position, table⟩

theorem Supervision.badEnd_inRange {v : Supervision} (h : v.InRange) : v.badEnd.InRange := by
  obtain ⟨period, threshold, pulse, count, index, position, table⟩ := Supervision.fresh_inRange h
  exact ⟨period, threshold, pulse, Nat.min_le_left 15 _, index, position, table⟩

/-- A change of the switches of supervision leaves its numbers. -/
theorem Supervision.InRange.of_numbers {v w : Supervision} (h : v.InRange) (period : w.period = v.period)
    (threshold : w.threshold = v.threshold) (pulse : w.pulseLength = v.pulseLength) (count : w.errorCount = v.errorCount)
    (index : w.index = v.index) (position : w.position = v.position) (table : w.table = v.table) : w.InRange := by
  refine ⟨?_, ?_, ?_, ?_, ?_, ?_, ?_⟩
  · rw [period]; exact h.period
  · rw [threshold]; exact h.threshold
  · rw [pulse]; exact h.pulseLength
  · rw [count]; exact h.errorCount
  · rw [index]; exact h.index
  · rw [position, period]; exact h.position
  · rw [table]; exact h.table

theorem Supervision.trip_inRange {v : Supervision} (h : v.InRange) : v.trip.InRange := by
  unfold Supervision.trip
  dsimp only
  split <;> exact h.of_numbers rfl rfl rfl rfl rfl rfl rfl

theorem Supervision.trip_fallback (v : Supervision) : v.trip.fallback = true ∧ v.trip.table = v.table := by
  unfold Supervision.trip
  dsimp only
  split <;> exact ⟨rfl, rfl⟩

theorem Supervision.advance_inRange {v : Supervision} (h : v.InRange) : v.advance.InRange := by
  unfold Supervision.advance
  split
  · next moves =>
    obtain ⟨period, threshold, pulse, count, index, position, table⟩ := h
    exact ⟨period, threshold, pulse, count, index, show v.position + 1 < 64 * v.period by omega, table⟩
  · exact h

theorem Supervision.advance_switches (v : Supervision) : v.advance.fallback = v.fallback ∧ v.advance.table = v.table := by
  unfold Supervision.advance
  split <;> exact ⟨rfl, rfl⟩

theorem Supervision.turnPhase_inRange {v : Supervision} (h : v.InRange) : v.turnPhase.InRange := by
  unfold Supervision.turnPhase
  split
  · next moves =>
    obtain ⟨period, threshold, pulse, count, index, position, table⟩ := h
    exact ⟨period, threshold, pulse, count, index, show v.position + 1 < 64 * v.period by omega, table⟩
  · exact h

theorem Supervision.turnPhase_switches (v : Supervision) :
    v.turnPhase.fallback = v.fallback ∧ v.turnPhase.table = v.table := by
  unfold Supervision.turnPhase
  split <;> exact ⟨rfl, rfl⟩

/-- RESET_OUT's counter alone may differ. -/
theorem Supervision.tickReset_only (v : Supervision) :
    v.tickReset = { v with resetOut := v.tickReset.resetOut, resetTick := v.tickReset.resetTick } := by
  unfold Supervision.tickReset
  split
  · split <;> rfl
  · rfl

theorem Supervision.releaseReset_only (v : Supervision) :
    v.releaseReset = { v with resetOut := v.releaseReset.resetOut, resetTick := v.releaseReset.resetTick } := by
  unfold Supervision.releaseReset
  split
  · split <;> rfl
  · rfl

theorem Supervision.tickReset_inRange {v : Supervision} (h : v.InRange) : v.tickReset.InRange := by
  rw [v.tickReset_only]
  exact h.of_numbers rfl rfl rfl rfl rfl rfl rfl

theorem Supervision.releaseReset_inRange {v : Supervision} (h : v.InRange) : v.releaseReset.InRange := by
  rw [v.releaseReset_only]
  exact h.of_numbers rfl rfl rfl rfl rfl rfl rfl

/-- The fields of a SUPERVISE that R162 passes, in a mode that is not OFF. -/
theorem superviseFault_none {r : WorkRecord} (h : superviseFault r = none) (on : r.byte 0 0 ≠ 0) :
    (2 ≤ (r.byte 0 1).toNat ∧ (r.byte 0 1).toNat ≤ 254 ∧ (r.byte 0 1).toNat % 2 = 0) ∧
    (1 ≤ (r.byte 0 2).toNat ∧ (r.byte 0 2).toNat ≤ 15) ∧
    (r.byte 1 0 = 2 → 1 ≤ (r.byte 1 1).toNat ∧ (r.byte 1 1).toNat ≤ 15) := by
  unfold superviseFault at h
  dsimp only at h
  rw [if_neg on] at h
  repeat
    split at h
    · cases h
  refine ⟨by omega, by omega, fun pulses => ?_⟩
  by_contra bad
  have tooLong : r.byte 1 0 = 2 ∧ ((r.byte 1 1).toNat < 1 ∨ 15 < (r.byte 1 1).toNat) := ⟨pulses, by omega⟩
  exact absurd tooLong (by assumption)

theorem Supervision.configured_inRange {v : Supervision} {r : WorkRecord} (h : v.InRange) (good : superviseFault r = none) :
    (v.configured r).InRange := by
  obtain ⟨period, threshold, pulse, count, index, position, table⟩ := Supervision.fresh_inRange h
  unfold Supervision.configured
  dsimp only
  split
  · exact ⟨period, threshold, pulse, Nat.zero_le 15, index, position, table⟩
  · next on =>
    obtain ⟨periodOk, thresholdOk, pulseOk⟩ := superviseFault_none good on
    refine ⟨periodOk, thresholdOk, ?_, Nat.zero_le 15, index, show 0 < 64 * (r.byte 0 1).toNat by omega, table⟩
    dsimp only
    split
    · next pulses => exact pulseOk pulses
    · exact pulse

theorem Supervision.configured_switches (v : Supervision) (r : WorkRecord) :
    (v.configured r).fallback = v.fallback ∧ (v.configured r).table = v.table := by
  unfold Supervision.configured
  dsimp only
  split <;> exact ⟨rfl, rfl⟩

theorem parseFallback_noStream {w : Word} {e : FallbackEntry} (h : parseFallback w = .ok e) (n : StreamNo) :
    e.source ≠ .stream n := by
  unfold parseFallback at h
  dsimp only at h
  split at h
  · split at h
    · cases h; exact Source.noConfusion
    · split at h
      · cases h
      · cases h; exact Source.noConfusion
    · split at h
      · cases h; exact Source.noConfusion
      · cases h
    · cases h; exact Source.noConfusion
    · cases h
  · cases h

/-- The table that R171 passes: as long as the record says, each target once, and no stream. -/
theorem checkFallback_ok {ws : List Word} {k : Nat} {before t : List FallbackEntry} (h : checkFallback k before ws = .ok t)
    (nodup : (before.map fun e => e.target).Nodup) (noStream : ∀ e ∈ before, ∀ n, e.source ≠ .stream n) :
    t.length = before.length + ws.length ∧ (t.map fun e => e.target).Nodup ∧ ∀ e ∈ t, ∀ n, e.source ≠ .stream n := by
  induction ws generalizing k before with
  | nil => cases h; exact ⟨rfl, nodup, noStream⟩
  | cons w ws ih =>
    unfold checkFallback at h
    split at h
    · cases h
    · next e parsed =>
      split at h
      · cases h
      · next fresh =>
        have nodup' : ((before ++ [e]).map fun e => e.target).Nodup := by
          rw [List.map_append, List.map_singleton, List.nodup_append]
          refine ⟨nodup, List.nodup_singleton _, fun k hk k' hk' same => fresh ?_⟩
          obtain ⟨b, hb, rfl⟩ := List.mem_map.1 hk
          rw [List.mem_singleton.1 hk'] at same
          exact List.any_eq_true.2 ⟨b, hb, by simp [same]⟩
        have noStream' : ∀ x ∈ before ++ [e], ∀ n, x.source ≠ .stream n := by
          intro x hx
          rcases List.mem_append.1 hx with old | new
          · exact noStream x old
          · rw [List.mem_singleton.1 new]
            exact parseFallback_noStream parsed
        obtain ⟨length, rest⟩ := ih h nodup' noStream'
        refine ⟨?_, rest⟩
        rw [length, List.length_append, List.length_singleton, List.length_cons]
        omega

section
variable (s : State)

theorem State.advance_keeps : s.Keeps (s.onSupervision Supervision.advance) :=
  s.onSupervision_keeps _ Supervision.advance_inRange (Supervision.advance_switches _).2 (Supervision.advance_switches _).1

theorem State.turnPhase_keeps : s.Keeps (s.onSupervision Supervision.turnPhase) :=
  s.onSupervision_keeps _ Supervision.turnPhase_inRange (Supervision.turnPhase_switches _).2
    (Supervision.turnPhase_switches _).1

theorem State.tickReset_keeps : s.Keeps (s.onSupervision Supervision.tickReset) :=
  s.onSupervision_keeps _ Supervision.tickReset_inRange (by rw [Supervision.tickReset_only])
    (by rw [Supervision.tickReset_only])

theorem State.releaseReset_keeps : s.Keeps (s.onSupervision Supervision.releaseReset) :=
  s.onSupervision_keeps _ Supervision.releaseReset_inRange (by rw [Supervision.releaseReset_only])
    (by rw [Supervision.releaseReset_only])

theorem State.endGood_keeps : s.Keeps s.endGood :=
  (s.onSupervision_keeps _ Supervision.goodEnd_inRange rfl rfl).trans (State.raiseIf_keeps _ _ _)

/-- FALLBACK set while it was clear: nothing is displaced, so an overlay may be ordered. -/
theorem State.orderOverlay_keeps (f : Supervision → Supervision) (range : s.supervision.InRange → (f s.supervision).InRange)
    (table : (f s.supervision).table = s.supervision.table) (set : (f s.supervision).fallback = true)
    (clear : s.supervision.fallback = false) : s.Keeps (s.onSupervision f).orderOverlay := by
  refine ⟨rfl, rfl, id, fun b => ⟨b.queues, b.lines, b.router, b.groups, b.activity, range b.supervision⟩, fun _ => id, fun h => ?_⟩
  obtain ⟨counted, nodup, noStream, distinct, marked, covered, ordered, empty, off⟩ := h
  obtain ⟨-, nothing⟩ := off clear
  refine ⟨counted, ?_, ?_, distinct, marked, covered, fun _ => rfl, fun _ => nothing, fun no => ?_⟩
  · show ((f s.supervision).table.map _).Nodup
    rw [table]
    exact nodup
  · show ∀ e ∈ (f s.supervision).table, _
    rw [table]
    exact noStream
  · exact absurd (set.symm.trans no) (by decide)

theorem State.endBad_keeps : s.Keeps s.endBad := by
  unfold State.endBad
  have ended := s.onSupervision_keeps _ Supervision.badEnd_inRange rfl rfl
  dsimp only
  refine State.Keeps.trans ?_ (State.raiseIf_keeps _ _ _)
  split
  · next trips =>
    have clear : s.supervision.fallback = false := by
      unfold Supervision.trips at trips
      simp only [Bool.and_eq_true, Bool.not_eq_true'] at trips
      exact trips.2
    exact ended.trans (State.orderOverlay_keeps _ _ Supervision.trip_inRange (Supervision.trip_fallback _).2
      (Supervision.trip_fallback _).1 clear)
  · exact ended

theorem State.periodEnd_keeps : s.Keeps s.periodEnd := s.endBad_keeps.ite (.refl s)

theorem State.supervise_keeps (r : WorkRecord) : s.Keeps (s.supervise r).2.2 := by
  unfold State.supervise
  split
  · exact .refl s
  · next good =>
    exact s.onSupervision_keeps (fun v => v.configured r) (fun v => Supervision.configured_inRange v good) (Supervision.configured_switches _ r).2
      (Supervision.configured_switches _ r).1

theorem State.pulse_keeps (r : WorkRecord) : s.Keeps (s.pulse r).2.2 := by
  unfold State.pulse
  split
  · exact .refl s
  · split
    · exact s.endGood_keeps
    · exact s.onSupervision_keeps (fun v => { v with index := v.index - 1, wordDue := true }) (fun v => ⟨v.period, v.threshold, v.pulseLength, v.errorCount,
        (Nat.sub_le _ 1).trans v.index, v.position, v.table⟩) rfl rfl
    · exact s.onSupervision_keeps (fun v => { v with bad := true, wordDue := true }) (fun v => v.of_numbers rfl rfl rfl rfl rfl rfl rfl) rfl rfl
    · exact .refl s

theorem State.setFallback_keeps (r : WorkRecord) : s.Keeps (s.setFallback r).2.2 := by
  unfold State.setFallback
  dsimp only
  split
  · exact .refl s
  · split
    · exact .refl s
    · next count =>
      split
      · exact .refl s
      · split
        · exact .refl s
        · next t e =>
          obtain ⟨length, nodup, noStream⟩ := checkFallback_ok e List.nodup_nil (fun _ h => nomatch h)
          rw [List.length_map, List.length_range, List.length_nil, Nat.zero_add] at length
          refine ⟨rfl, rfl, id, fun b => ⟨b.queues, b.lines, b.router, b.groups, b.activity, ?_⟩, fun _ => id, fun h => ?_⟩
          · have v := b.supervision
            exact ⟨v.period, v.threshold, v.pulseLength, v.errorCount, v.index, v.position, show t.length ≤ 32 by omega⟩
          · obtain ⟨counted, -, -, rest⟩ := h
            exact ⟨counted, nodup, noStream, rest⟩

theorem State.enterFallback_keeps : s.Keeps s.enterFallback.2.2 := by
  unfold State.enterFallback
  split
  · exact .refl s
  · next clear =>
    exact (s.orderOverlay_keeps _ (fun v => v.of_numbers rfl rfl rfl rfl rfl rfl rfl) rfl rfl (by simpa using clear)).trans
      (State.raise_keeps _ _)

theorem Supervision.recovered_inRange {v : Supervision} (h : v.InRange) : v.recovered.InRange := by
  have cleared : Supervision.InRange { v with fallback := false, errorCount := 0, wordDue := true } :=
    ⟨h.period, h.threshold, h.pulseLength, Nat.zero_le 15, h.index, h.position, h.table⟩
  unfold Supervision.recovered
  dsimp only
  split
  · exact cleared
  · exact Supervision.fresh_inRange cleared

theorem Supervision.recovered_table (v : Supervision) : v.recovered.table = v.table := by
  unfold Supervision.recovered
  dsimp only
  split <;> rfl

/-- FALLBACK cleared once nothing is displaced and no overlay is ordered. -/
theorem State.recoverSupervision_keeps (order : s.switch.overlayOrder = false) (nothing : s.switch.displaced = []) :
    s.Keeps s.recoverSupervision := by
  refine State.Keeps.trans (t := s.onSupervision Supervision.recovered) ?_ (State.raise_keeps _ _)
  refine ⟨rfl, rfl, id, fun b => ⟨b.queues, b.lines, b.router, b.groups, b.activity, Supervision.recovered_inRange b.supervision⟩,
    fun _ => id, fun h => ?_⟩
  obtain ⟨counted, nodup, noStream, distinct, marked, covered, ordered, empty, -⟩ := h
  refine ⟨counted, ?_, ?_, distinct, marked, covered, ordered, empty, fun _ => ⟨order, nothing⟩⟩
  · show (s.supervision.recovered.table.map _).Nodup
    rw [Supervision.recovered_table]
    exact nodup
  · show ∀ e ∈ s.supervision.recovered.table, _
    rw [Supervision.recovered_table]
    exact noStream

theorem State.supervisionWordWrite_keeps : s.Keeps s.supervisionWordWrite :=
  (((s.onSupervision_keeps _ (fun v => v.of_numbers rfl rfl rfl rfl rfl rfl rfl) rfl rfl).trans
    (State.writeWord_only _ _ _).keeps).trans (State.raiseIf_keeps _ _ _)).ite (.refl s)

end

end Sys2Proof.Machine
end

section
/-! PROOFS. What the slot switch keeps. -/

namespace Sys2Proof.Machine

/-! ### One entry replaced (03 R60, R74) -/

/-- The entries of a map that name a stream, after one entry is replaced. -/
theorem countP_map_set (map : Vector RouteEntry 120) (k : SlotIndex) (e : RouteEntry) (n : StreamNo) :
    ((map.set k e).toList.countP fun x => x.source == .stream n) =
      (map.toList.countP fun x => x.source == .stream n) - (if map[k].source = .stream n then 1 else 0) +
        (if e.source = .stream n then 1 else 0) ∧
    (if map[k].source = .stream n then 1 else 0) ≤ map.toList.countP fun x => x.source == .stream n := by
  have inside : k.val < map.toList.length := by simp
  constructor
  · rw [Vector.toList_set, List.countP_set inside]
    simp only [Vector.getElem_toList, beq_iff_eq, Fin.getElem_fin]
  · refine le_trans (le_of_eq ?_) (List.boole_getElem_le_countP (p := fun x => x.source == Source.stream n) inside)
    simp only [Vector.getElem_toList, beq_iff_eq, Fin.getElem_fin]

theorem Vector.getElem_set_slot (map : Vector RouteEntry 120) (k j : SlotIndex) (e : RouteEntry) :
    (map.set k e)[j] = if k = j then e else map[j] := by
  by_cases same : k = j
  · subst same; simp
  · rw [if_neg same]
    exact Vector.getElem_set_ne _ _ fun h => same (Fin.ext h)

/-- A replaced entry touches the map and the streams' references alone. -/
theorem State.replaceEntry_only (s : State) (k : SlotIndex) (e : RouteEntry) :
    s.replaceEntry k e = { s with
      switch := { s.switch with map := s.switch.map.set k e }, streams := (s.replaceEntry k e).streams } := by
  have loss (s : State) (x : Source) : s.sourceLoss x = { s with streams := (s.sourceLoss x).streams } := by
    unfold State.sourceLoss
    split <;> rfl
  have gain (s : State) (x : Source) : s.sourceGain x = { s with streams := (s.sourceGain x).streams } := by
    unfold State.sourceGain
    split <;> rfl
  unfold State.replaceEntry
  rw [gain, loss]
  rfl

theorem State.replaceEntry_isOpenFeed (s : State) (k : SlotIndex) (e : RouteEntry) (n : StreamNo) :
    (s.replaceEntry k e).isOpenFeed n = s.isOpenFeed n := by
  rw [State.isOpenFeed_eq, State.replaceEntry_stream, ← State.isOpenFeed_eq]

/-- An unmarked entry replaced by an unmarked one that names no stream but an open FEED. -/
theorem State.replaceEntry_keeps (s : State) (k : SlotIndex) (e : RouteEntry) (old : s.switch.map[k].marked = false)
    (new : e.marked = false) (feed : ∀ n, e.source = .stream n → s.isOpenFeed n = true) : s.Keeps (s.replaceEntry k e) := by
  have only := s.replaceEntry_only k e
  refine ⟨by rw [only], by rw [only], by rw [only]; exact id, fun b => ?_, by rw [only]; exact fun _ => id, fun h => ?_⟩
  · rw [only]; exact ⟨b.queues, b.lines, b.router, b.groups, b.activity, b.supervision⟩
  obtain ⟨counted, nodup, noStream, distinct, marked, covered, rest⟩ := h
  have away : ∀ d ∈ s.switch.displaced, k ≠ d.target := by
    rintro d hd rfl
    rw [(marked d hd).1] at old
    cases old
  have counts (n : StreamNo) : (s.replaceEntry k e).streams[n].refs = references (s.replaceEntry k e) n ∧
      (0 < (s.replaceEntry k e).streams[n].refs → (s.replaceEntry k e).isOpenFeed n = true) := by
    obtain ⟨total, used⟩ := counted n
    obtain ⟨counts, least⟩ := countP_map_set s.switch.map k e n
    rw [references_eq] at total
    have names : references (s.replaceEntry k e) n =
        ((s.switch.map.set k e).toList.countP fun x => x.source == .stream n) +
        (s.switch.displaced.countP fun d => d.entry.source == .stream n) +
        ((List.finRange 8).map fun g => s.groups[g].members.countP fun m => m.source == .stream n).sum := by
      rw [references_eq, only]
    rw [names, counts, State.replaceEntry_stream, State.replaceEntry_isOpenFeed]
    refine ⟨by dsimp only; omega, fun positive => ?_⟩
    by_cases puts : e.source = .stream n
    · exact feed n puts
    · rw [if_neg puts] at positive
      exact used (by dsimp only at positive; omega)
  rw [only] at counts ⊢
  refine ⟨counts, nodup, noStream, distinct, fun d hd => ?_, fun j hj => ?_, rest⟩
  · show (s.switch.map.set k e)[d.target].marked = true ∧ ∀ n, (s.switch.map.set k e)[d.target].source ≠ .stream n
    rw [Vector.getElem_set_slot, if_neg (away d hd)]
    exact marked d hd
  · change (s.switch.map.set k e)[j].marked = true at hj
    rw [Vector.getElem_set_slot] at hj
    split at hj
    · rw [new] at hj; cases hj
    · exact covered j hj

/-! ### Edit lists and DROP_TAG (03 R56 to R62) -/

theorem State.judgeEdit_ok {s : State} {before : List SlotIndex} {w : Word × Word} {e : Edit} (h : s.judgeEdit before w = .ok e) :
    s.switch.map[e.target].marked = false ∧ ∀ n, e.source = .stream n → s.isOpenFeed n = true := by
  unfold State.judgeEdit at h
  split at h
  · cases h
  · split at h
    · cases h
    · split at h
      · cases h
      · next open_ =>
        split at h
        · cases h
        · next unprotected =>
          split at h
          · cases h
          · cases h
            refine ⟨?_, fun n names => ?_⟩
            · simpa using (Bool.or_eq_false_iff.1 (Bool.eq_false_iff.2 unprotected)).1
            · simpa [State.editStreamOk, names, Source.stream?] using open_

theorem State.judgeEdits_ok {s : State} {ws : List (Word × Word)} {k : Nat} {before : List SlotIndex} {es : List Edit}
    (h : s.judgeEdits k before ws = .ok es) :
    ∀ e ∈ es, s.switch.map[e.target].marked = false ∧ ∀ n, e.source = .stream n → s.isOpenFeed n = true := by
  induction ws generalizing k before es with
  | nil => cases h; exact fun _ h => nomatch h
  | cons w ws ih =>
    unfold State.judgeEdits at h
    split at h
    · cases h
    · next e judged =>
      split at h
      · cases h
      · next es' rest =>
        cases h
        exact List.forall_mem_cons.2 ⟨State.judgeEdit_ok judged, ih rest⟩

theorem Edit.entry_marked (e : Edit) : e.entry.marked = false := by
  unfold Edit.entry
  split <;> rfl

/-- Unmarked entries replaced one after the other by unmarked ones. -/
theorem State.replaceEntries_keeps {α : Type} (target : α → SlotIndex) (entry : α → RouteEntry) (as : List α) (s : State)
    (unmarked : ∀ a ∈ as, s.switch.map[target a].marked = false) (new : ∀ a ∈ as, (entry a).marked = false)
    (feeds : ∀ a ∈ as, ∀ n, (entry a).source = .stream n → s.isOpenFeed n = true) :
    s.Keeps (as.foldl (fun s a => s.replaceEntry (target a) (entry a)) s) := by
  induction as generalizing s with
  | nil => exact .refl s
  | cons a as ih =>
    obtain ⟨unmarkedA, unmarkedAs⟩ := List.forall_mem_cons.1 unmarked
    obtain ⟨newA, newAs⟩ := List.forall_mem_cons.1 new
    obtain ⟨feedsA, feedsAs⟩ := List.forall_mem_cons.1 feeds
    refine (s.replaceEntry_keeps _ _ unmarkedA newA feedsA).trans (ih _ (fun b hb => ?_) newAs fun b hb n names => ?_)
    · rw [State.replaceEntry_switch]
      dsimp only
      rw [Vector.getElem_set_slot]
      split
      · exact newA
      · exact unmarkedAs b hb
    · rw [State.replaceEntry_isOpenFeed]
      exact feedsAs b hb n names

theorem State.applyEditList_keeps (s : State) (edits : List (Word × Word)) : s.Keeps (s.applyEditList edits).2.2 := by
  unfold State.applyEditList
  split
  · exact .refl s
  · next es judged =>
    have ok := State.judgeEdits_ok judged
    exact State.replaceEntries_keeps (fun e => e.target) Edit.entry es s (fun e he => (ok e he).1) (fun e _ => e.entry_marked)
      fun e he n names => (ok e he).2 n ((e.entry_names n).1 names).2

theorem State.applyDropTag_keeps (s : State) (tag : Octet) : s.Keeps (s.applyDropTag tag).2.2 := by
  refine State.replaceEntries_keeps id (fun _ => {}) (s.tagged tag) s (fun k hk => ?_) (fun _ _ => rfl)
    fun _ _ _ names => nomatch names
  have dropped := (List.mem_filter.1 hk).2
  unfold RouteEntry.dropped at dropped
  obtain ⟨-, unmarked⟩ := Bool.and_eq_true_iff.1 dropped
  show s.switch.map[k].marked = false
  simpa using unmarked

/-! ### The overlay and the recovery (03 R66, R70) -/

/-- The references to a stream at the switch: map and displaced list together. -/
def Switch.named (w : Switch) (n : StreamNo) : Nat :=
  (w.map.toList.countP fun e => e.source == .stream n) + w.displaced.countP fun d => d.entry.source == .stream n

/-- The entries with the fallback mark are the targets of the displaced list, each displaced once, and name no stream. -/
structure Switch.Marks (w : Switch) : Prop where
  distinct : (w.displaced.map fun d => d.target).Nodup
  marked : ∀ d ∈ w.displaced, w.map[d.target].marked = true ∧ ∀ n, w.map[d.target].source ≠ .stream n
  covered : ∀ k : SlotIndex, w.map[k].marked = true → ∃ d ∈ w.displaced, d.target = k

theorem references_named (s : State) (n : StreamNo) : references s n =
    s.switch.named n + ((List.finRange 8).map fun g => s.groups[g].members.countP fun m => m.source == .stream n).sum :=
  references_eq s n

/-- A change of the switch that leaves every stream as often named. -/
theorem State.renamed_keeps (s : State) (f : Switch → Switch) (named : ∀ n, (f s.switch).named n = s.switch.named n)
    (marks : (f s.switch).Marks) (clear : (f s.switch).overlayOrder = false) (done : (f s.switch).overlayDue = false)
    (set : s.supervision.fallback = false → (f s.switch).displaced = []) : s.Keeps (s.onSwitch f) := by
  refine ⟨rfl, rfl, id, fun b => ⟨b.queues, b.lines, b.router, b.groups, b.activity, b.supervision⟩, fun _ => id, fun h => ?_⟩
  obtain ⟨counted, nodup, noStream, -⟩ := h
  have same (n : StreamNo) : references (s.onSwitch f) n = references s n := by
    rw [references_named, references_named]
    exact congrArg (· + _) (named n)
  refine ⟨fun n => ?_, nodup, noStream, marks.distinct, marks.marked, marks.covered, fun due => ?_, fun order => ?_,
    fun off => ⟨clear, set off⟩⟩
  · rw [same]
    exact counted n
  · exact absurd (done.symm.trans due) (by decide)
  · exact absurd (clear.symm.trans order) (by decide)

theorem Switch.overlayEntry_named (w : Switch) (e : FallbackEntry) (noStream : ∀ n, e.source ≠ .stream n) (n : StreamNo) :
    (w.overlayEntry e).named n = w.named n := by
  obtain ⟨counts, least⟩ := countP_map_set w.map e.target { source := e.source, tag := 0, cls := .urgent, marked := true } n
  rw [if_neg (noStream n)] at counts
  unfold Switch.named Switch.overlayEntry
  dsimp only
  rw [counts, List.countP_append, List.countP_singleton]
  simp only [beq_iff_eq]
  omega

theorem Switch.overlayEntry_marks (w : Switch) (e : FallbackEntry) (noStream : ∀ n, e.source ≠ .stream n)
    (fresh : ∀ d ∈ w.displaced, d.target ≠ e.target) (h : w.Marks) : (w.overlayEntry e).Marks := by
  unfold Switch.overlayEntry
  refine ⟨?_, fun d hd => ?_, fun k hk => ?_⟩
  · rw [List.map_append, List.map_singleton, List.nodup_append]
    refine ⟨h.distinct, List.nodup_singleton _, fun k hk k' hk' same => ?_⟩
    obtain ⟨d, hd, rfl⟩ := List.mem_map.1 hk
    exact fresh d hd (same.trans (List.mem_singleton.1 hk'))
  · dsimp only
    rw [Vector.getElem_set_slot]
    split
    · exact ⟨rfl, noStream⟩
    · next other =>
      rcases List.mem_append.1 hd with old | new
      · exact h.marked d old
      · exact absurd (congrArg Displaced.target (List.mem_singleton.1 new)).symm other
  · dsimp only at hk
    rw [Vector.getElem_set_slot] at hk
    split at hk
    · next same => exact ⟨_, List.mem_append_right _ (List.mem_singleton_self _), same⟩
    · obtain ⟨d, hd, target⟩ := h.covered k hk
      exact ⟨d, List.mem_append_left _ hd, target⟩

/-- A table with distinct targets, none of them displaced before, laid over the map. -/
theorem Switch.overlayEntries (table : List FallbackEntry) (w : Switch) (nodup : (table.map fun e => e.target).Nodup)
    (noStream : ∀ e ∈ table, ∀ n, e.source ≠ .stream n)
    (fresh : ∀ d ∈ w.displaced, d.target ∉ table.map fun e => e.target) (h : w.Marks) :
    (table.foldl Switch.overlayEntry w).Marks ∧ ∀ n, (table.foldl Switch.overlayEntry w).named n = w.named n := by
  induction table generalizing w with
  | nil => exact ⟨h, fun _ => rfl⟩
  | cons e table ih =>
    obtain ⟨notLater, nodupRest⟩ := List.nodup_cons.1 nodup
    obtain ⟨here, later⟩ := List.forall_mem_cons.1 noStream
    have marks := w.overlayEntry_marks e here (fun d hd same => fresh d hd (same ▸ List.mem_cons_self)) h
    obtain ⟨marksAll, namedAll⟩ := ih (w.overlayEntry e) nodupRest later (fun d hd => by
      rcases List.mem_append.1 hd with old | new
      · exact fun listed => fresh d old (List.mem_cons_of_mem _ listed)
      · rw [List.mem_singleton.1 new]
        exact notLater) marks
    exact ⟨marksAll, fun n => (namedAll n).trans (w.overlayEntry_named e here n)⟩

theorem State.overlay_refs (s : State) (ordered : s.switch.overlayOrder = true) (h : ReferencesCounted s) :
    ReferencesCounted s.overlay := by
  obtain ⟨counted, nodup, noStream, distinct, marked, covered, -, empty, off⟩ := id h
  have nothing := empty ordered
  obtain ⟨marks, named⟩ := s.switch.overlayEntries s.supervision.table nodup noStream
    (fun d hd => by rw [nothing] at hd; cases hd) ⟨distinct, marked, covered⟩
  refine (State.renamed_keeps s
    (fun w => { s.supervision.table.foldl Switch.overlayEntry w with overlayOrder := false, overlayDue := false })
    named ⟨marks.distinct, marks.marked, marks.covered⟩ rfl rfl fun clear => ?_).refs h
  exact absurd (ordered.symm.trans (off clear).1) (by decide)

theorem State.overlayIfDue_keeps (s : State) : s.Keeps s.overlayIfDue := by
  unfold State.overlayIfDue
  split
  · next due =>
    refine ⟨rfl, rfl, id, fun b => ⟨b.queues, b.lines, b.router, b.groups, b.activity, b.supervision⟩, fun _ => id, fun h => ?_⟩
    obtain ⟨-, -, -, -, -, -, ordered, -⟩ := id h
    exact s.overlay_refs (ordered due) h
  · exact .refl s

/-- Displaced routes written back: their references are in the map again, and no mark stays on their targets. -/
theorem Switch.restoreEntries (ds : List Displaced) (w : Switch) (nodup : (ds.map fun d => d.target).Nodup)
    (noStream : ∀ d ∈ ds, ∀ n, w.map[d.target].source ≠ .stream n) :
    (∀ n, ((ds.foldl Switch.restoreEntry w).map.toList.countP fun e => e.source == .stream n) =
      (w.map.toList.countP fun e => e.source == .stream n) + ds.countP fun d => d.entry.source == .stream n) ∧
    ∀ k : SlotIndex, (ds.foldl Switch.restoreEntry w).map[k].marked = true →
      w.map[k].marked = true ∧ ∀ d ∈ ds, d.target ≠ k := by
  induction ds generalizing w with
  | nil => exact ⟨fun _ => rfl, fun k hk => ⟨hk, fun _ h => nomatch h⟩⟩
  | cons d ds ih =>
    obtain ⟨notLater, nodupRest⟩ := List.nodup_cons.1 nodup
    obtain ⟨here, later⟩ := List.forall_mem_cons.1 noStream
    have away : ∀ x ∈ ds, d.target ≠ x.target := fun x hx same => notLater (List.mem_map.2 ⟨x, hx, same.symm⟩)
    obtain ⟨counts, marks⟩ := ih (w.restoreEntry d) nodupRest fun x hx n => by
      show (w.map.set d.target { d.entry with marked := false })[x.target].source ≠ _
      rw [Vector.getElem_set_slot, if_neg (away x hx)]
      exact later x hx n
    refine ⟨fun n => ?_, fun k hk => ?_⟩
    · obtain ⟨set, -⟩ := countP_map_set w.map d.target { d.entry with marked := false } n
      rw [if_neg (here n)] at set
      rw [List.foldl_cons, counts, List.countP_cons]
      show ((w.map.set d.target { d.entry with marked := false }).toList.countP _) + _ = _
      rw [set]
      simp only [beq_iff_eq]
      omega
    · obtain ⟨marked, others⟩ := marks k hk
      change (w.map.set d.target { d.entry with marked := false })[k].marked = true at marked
      rw [Vector.getElem_set_slot] at marked
      split at marked
      · cases marked
      · next other => exact ⟨marked, List.forall_mem_cons.2 ⟨other, others⟩⟩

theorem State.restore_keeps (s : State) : s.Keeps (s.onSwitch Switch.restore) := by
  refine ⟨rfl, rfl, id, fun b => ⟨b.queues, b.lines, b.router, b.groups, b.activity, b.supervision⟩, fun _ => id, fun h => ?_⟩
  obtain ⟨-, -, -, distinct, marked, covered, -⟩ := id h
  obtain ⟨counts, marks⟩ := s.switch.restoreEntries s.switch.displaced distinct fun d hd => (marked d hd).2
  refine (s.renamed_keeps Switch.restore (fun n => counts n) ⟨List.nodup_nil, (fun _ h => nomatch h), fun k hk => ?_⟩ rfl rfl
    fun _ => rfl).refs h
  obtain ⟨before, others⟩ := marks k hk
  obtain ⟨d, hd, target⟩ := covered k before
  exact absurd target (others d hd)

theorem State.applyRecovery_keeps (s : State) : s.Keeps s.applyRecovery.2.2 :=
  s.restore_keeps.trans (State.recoverSupervision_keeps _ rfl rfl)

/-! ### The work of a boundary (03 R49, R53, R63) -/

section
variable (s : State)

theorem State.applyChange_keeps (c : Change) : s.Keeps (s.applyChange c).2.2 := by
  cases c with
  | editList edits => exact s.applyEditList_keeps edits
  | dropTag tag => exact s.applyDropTag_keeps tag
  | recover => exact s.applyRecovery_keeps

theorem State.heldChange_keeps : s.Keeps s.heldChange := by
  unfold State.heldChange
  split
  · split
    · exact s.onSwitch_keeps _ rfl rfl rfl .inl
    · exact ((s.applyChange_keeps _).trans (State.onSwitch_keeps _ _ rfl rfl rfl .inl)).trans
        (State.requestRetire_keeps _ _ _ _ _)
  · exact .refl s

theorem State.changes_keeps (overlayFirst : Bool) : s.Keeps (s.changes overlayFirst) := by
  unfold State.changes
  split
  · exact s.overlayIfDue_keeps.trans (State.heldChange_keeps _)
  · exact s.heldChange_keeps.trans (State.overlayIfDue_keeps _)

theorem State.formWork_keeps (overlayFirst : Bool) : s.Keeps (s.formWork overlayFirst) :=
  ((s.changes_keeps overlayFirst).trans (State.onSwitch_keeps _ _ rfl rfl rfl .inl)).ite (.refl s)

theorem State.readSources_keeps : s.Keeps s.readSources := by
  unfold State.readSources
  exact s.onSwitch_keeps _ rfl rfl rfl .inl

theorem State.allStreams_keeps : s.Keeps (allStreams.foldl State.streamWork s) :=
  State.Keeps.foldl (fun s n => (s.streamWork_keepsRefs n).toKeeps) _ s

theorem State.sourcesWork_keeps : s.Keeps s.sourcesWork :=
  (((s.formWork_keeps false).trans (State.allStreams_keeps _)).trans (State.readSources_keeps _)).ite (.refl s)

theorem State.queryMap_keeps (r : WorkRecord) : s.Keeps (s.queryMap r).2.2 := by
  unfold State.queryMap
  split
  · exact .refl s
  · have written := (s.writes_only (s.switch.imageWrites ‹Offset›)).keeps
    dsimp only
    split
    · exact written.trans (State.raise_keeps _ _)
    · exact written

/-! ### A port that leaves LINKED, and PORT_SETUP (02 R35, R36) -/

theorem Stream.untap_namedAlike (p : Port) (t : Stream) : t.NamedAlike (t.untap p) := by
  unfold Stream.untap
  split
  · exact ⟨rfl, rfl⟩
  · next d open_ =>
    split
    · exact ⟨rfl, rfl⟩
    · split
      · exact ⟨rfl, by rw [open_]; rfl⟩
      · exact ⟨rfl, rfl⟩

theorem Switch.unread_only (w : Switch) (p : Port) :
    w.unread p = { w with srcSlots := (w.unread p).srcSlots, srcScans := (w.unread p).srcScans } := by
  unfold Switch.unread
  split <;> rfl

theorem Activity.uncount_inRange (a : Activity) (p : Port) (h : a.InRange) : (a.uncount p).InRange := by
  refine ⟨h.threshold, h.onset, h.hang, fun k => ?_⟩
  unfold Activity.uncount
  rw [tabulate_get]
  split <;> exact h.slots k

theorem State.unsee_keeps (p : Port) : s.Keeps (s.unsee p) := by
  unfold State.unsee
  split
  · have heard := (s.onLine_keeps p (fun l => { l with seen := false }) id).trans
      (State.onActivity_keeps _ (fun a => a.uncount p) (Activity.uncount_inRange _ p))
    have unread := heard.trans (State.onSwitch_keeps _ (fun w => w.unread p) (by rw [Switch.unread_only])
      (by rw [Switch.unread_only]) (by rw [Switch.unread_only]) (by rw [Switch.unread_only]; exact .inl))
    refine unread.trans (State.streams_keeps _ _ fun n => ?_)
    rw [mapAll_get]
    exact Stream.untap_namedAlike p _
  · exact .refl s

theorem State.portSetup_keeps (r : WorkRecord) : s.Keeps (s.portSetup r).2.2 := by
  unfold State.portSetup
  dsimp only
  split
  · split
    · exact .refl s
    · split
      · exact (s.unsee_keeps _).trans (State.toQuiet_keeps _ _ _)
      · split
        · exact .refl s
        · exact (s.unsee_keeps _).trans (State.toOff_keeps _ _)
  · exact .refl s

end

end Sys2Proof.Machine
end

section
/-! PROOFS. What the walker, the retire path and the takes keep. -/

namespace Sys2Proof.Machine

/-! ### Keeping, with the take's request made or served on the way -/

/-- Like `State.Keeps`, for a part of a step before which the take lacks `d` requests and after which it lacks `e`. -/
structure State.Moves (d e : Nat) (s t : State) : Prop where
  pending : t.pending = s.pending
  mem : s.mem.wf = true → t.mem.wf = true
  bounded : s.Bounded → t.Bounded
  takes : TakeLacks d s → TakeLacks e t
  refs : ReferencesCounted s → ReferencesCounted t

theorem State.Keeps.moves {s t : State} (h : s.Keeps t) {d : Nat} : s.Moves d d t :=
  ⟨h.pending, h.mem, h.bounded, h.takes d, h.refs⟩

theorem State.Moves.trans {d e f : Nat} {s t u : State} (h : s.Moves d e t) (k : t.Moves e f u) : s.Moves d f u :=
  ⟨k.pending.trans h.pending, k.mem ∘ h.mem, k.bounded ∘ h.bounded, k.takes ∘ h.takes, k.refs ∘ h.refs⟩

theorem State.Moves.ite {d e : Nat} {c : Prop} [Decidable c] {s t u : State} (h : s.Moves d e t) (k : s.Moves d e u) :
    s.Moves d e (if c then t else u) := by
  split
  · exact h
  · exact k

section
variable (s : State)

/-- A change of the walker moves nothing else. -/
theorem State.onWalker_moves {d e : Nat} (f : Walker → Walker) (h : TakeLacks d s → TakeLacks e (s.onWalker f)) :
    s.Moves d e (s.onWalker f) :=
  ⟨rfl, id, fun b => ⟨b.queues, b.lines, b.router, b.groups, b.activity, b.supervision⟩, h, id⟩

theorem State.addRequest_moves (q : Request) (h : q.isAwaited = true) : s.Moves 1 0 (s.addRequest q) :=
  ⟨rfl, id, fun b => ⟨b.queues, b.lines, b.router, b.groups, b.activity, b.supervision⟩, s.addRequest_awaited q h, id⟩

theorem State.endTake_moves (h : Held) (o : OutcomeCode) (detail : Octet) : s.Moves 1 0 (s.endTake h o detail) :=
  s.addRequest_moves _ rfl

theorem State.keepTake_moves (h : Held) : s.Moves 1 0 (s.keepTake h) := s.addRequest_moves _ rfl

/-- The walk ends while no take is in progress. -/
theorem State.endsWalk_keeps (f : Walker → Walker) (walk : (f s.walker).walk = .none)
    (takes : (f s.walker).takes ≤ s.walker.takes) (h : s.walker.walk ≠ .taking) : s.Keeps (s.onWalker f) := by
  refine ⟨rfl, rfl, id, fun b => ⟨b.queues, b.lines, b.router, b.groups, b.activity, b.supervision⟩, fun d k => ?_, id⟩
  obtain ⟨most, -, one⟩ := k
  rw [if_neg h] at one
  refine ⟨takes.trans most, fun walks => absurd walk walks, ?_⟩
  rw [State.onWalker_walker, walk, if_neg (by decide)]
  exact one

/-! ### Halting (01 R17 to R19) -/

theorem State.enterHalted_keeps (reason : HaltReason) (h : s.walker.walk ≠ .taking) : s.Keeps (s.enterHalted reason) :=
  (s.endsWalk_keeps _ rfl le_rfl h).trans (State.raise_keeps _ _)

theorem State.haltEvent_keeps (reason : HaltReason) : s.Keeps (s.haltEvent reason) := by
  unfold State.haltEvent
  split
  · exact .refl s
  · split
    · exact s.onWalker_keeps _ rfl rfl
    · next no => exact s.enterHalted_keeps reason no

theorem State.busHalt_keeps : s.Keeps s.busHalt := (s.raise_keeps _).trans (State.haltEvent_keeps _ _)

/-! ### A look (01 R6 to R11) -/

theorem State.endWalk_keeps (status : WalkerStatus) (h : s.walker.walk ≠ .taking) : s.Keeps (s.endWalk status) :=
  s.endsWalk_keeps _ rfl le_rfl h

/-- A take begins, and has no request yet. -/
theorem State.startTake_moves (off : Offset) (h : s.walker.walk ≠ .taking)
    (few : TakeLacks 0 s → s.walker.takes ≤ 3) : s.Moves 0 1 (s.startTake off) := by
  refine s.onWalker_moves _ fun k => ?_
  have three := few k
  obtain ⟨most, -, one⟩ := k
  rw [if_neg h] at one
  exact ⟨most, fun _ => three, congrArg (· + 1) one⟩

/-- The walker may look: no walk is in progress and a take is left. -/
structure State.Looks (s : State) : Prop where
  idle : s.walker.walk = .none
  few : s.walker.takes ≤ 3

theorem State.Looks.of_walker {s t : State} (h : s.Looks) (e : t.walker = s.walker) : t.Looks := ⟨by rw [e]; exact h.1, by rw [e]; exact h.2⟩

theorem State.Looks.of_only {s t : State} (h : s.Looks) (only : s.OnlyMemory t) : t.Looks := h.of_walker (by rw [only.rest])

theorem State.Looks.notTaking {s : State} (h : s.Looks) : s.walker.walk ≠ .taking := by
  rw [h.idle]
  exact Walk.noConfusion

theorem State.lookFails_keeps (h : s.Looks) : s.Keeps (s.endWalk .idle).busHalt :=
  (s.endWalk_keeps _ h.notTaking).trans (State.busHalt_keeps _)

theorem State.lookBody_keeps (off : Offset) (header : Word) (h : s.Looks) : s.Keeps (s.lookBody off header) := by
  have only := s.readWords_only (wordByte header 3).toNat (off + 16)
  unfold State.lookBody
  split
  · next t e =>
    rw [e] at only
    exact only.keeps.trans (t.lookFails_keeps (h.of_only only))
  · next body t e =>
    rw [e] at only
    refine only.keeps.trans ?_
    have looks := h.of_only only
    dsimp only
    split
    · exact t.endWalk_keeps _ looks.notTaking
    · refine ⟨rfl, rfl, id, fun b => ⟨b.queues, b.lines, b.router, b.groups, b.activity, b.supervision⟩, fun d k => ?_, id⟩
      obtain ⟨most, -, one⟩ := k
      rw [if_neg looks.notTaking] at one
      exact ⟨most, fun _ => looks.few, one⟩

theorem State.lookRecord_moves (off : Offset) (h : s.Looks) : s.Moves 0 0 (s.lookRecord off) := by
  have only := s.readWord_only off
  unfold State.lookRecord
  split
  · next t e =>
    rw [e] at only
    exact (only.keeps.trans (t.lookFails_keeps (h.of_only only))).moves
  · next header t e =>
    rw [e] at only
    have looks := h.of_only only
    refine only.keeps.moves.trans ?_
    split
    · exact (t.endWalk_keeps _ looks.notTaking).moves
    · have only := t.readWords_only 3 (off + 4)
      split
      · next u e =>
        rw [e] at only
        exact (only.keeps.trans (u.lookFails_keeps (looks.of_only only))).moves
      · next u e =>
        rw [e] at only
        have looks := looks.of_only only
        refine only.keeps.moves.trans ?_
        split
        · exact (u.startTake_moves off looks.notTaking fun _ => looks.few).trans (State.endTake_moves _ _ _ _)
        · exact (u.lookBody_keeps off header looks).moves

theorem State.look_moves (h : s.Looks) : s.Moves 0 0 s.look := by
  have only := s.readWord_only s.walker.linkOffset
  unfold State.look
  split
  · next t e =>
    rw [e] at only
    exact (only.keeps.trans (t.lookFails_keeps (h.of_only only))).moves
  · next link t e =>
    rw [e] at only
    have looks := h.of_only only
    refine only.keeps.moves.trans ?_
    split
    · exact (t.endWalk_keeps _ looks.notTaking).moves
    · split
      · exact ((t.endWalk_keeps _ looks.notTaking).trans (State.haltEvent_keeps _ _)).moves
      · exact t.lookRecord_moves _ looks

theorem State.walkWork_moves : s.Moves 0 0 s.walkWork := by
  unfold State.walkWork
  dsimp only
  split
  · have done := (s.onWalker_keeps (fun w => { w with walkDue := false }) rfl rfl).moves (d := 0)
    refine done.trans ?_
    split
    · next walks =>
      have idle : s.walker.walk = .none := by
        unfold State.canWalk at walks
        simpa using (Bool.and_eq_true_iff.1 walks).2
      refine State.Moves.trans (e := 0) (State.onWalker_moves _ _ fun k => ?_) (State.look_moves _ ⟨idle, Nat.zero_le 3⟩)
      obtain ⟨-, -, one⟩ := k
      exact ⟨Nat.zero_le 4, fun _ => Nat.zero_le 3, one⟩
    · exact State.Keeps.moves (.refl _)
  · exact State.Keeps.moves (.refl s)

/-! ### The end of a take (01 R11, R17, R22) -/

theorem State.writeCursor_keeps : s.Keeps s.writeCursor := by
  unfold State.writeCursor
  split
  · exact .refl s
  · next c _ =>
    have written := (s.writeWord_only 0x04 (c.setWidth 32)).keeps
    exact written.ite (written.trans (State.busHalt_keeps _))

/-- A take lacks one request, then, exactly while it is in progress and its request has been served. -/
theorem TakeLacks.taking {s : State} (h : TakeLacks 1 s) : s.walker.walk = .taking := by
  obtain ⟨-, -, one⟩ := h
  by_contra no
  rw [if_neg no] at one
  cases one

theorem State.finishTake_moves : s.Moves 1 0 s.finishTake := by
  refine (s.writeCursor_keeps.moves (d := 1)).trans ?_
  unfold State.finishTake
  dsimp only
  generalize s.writeCursor = t
  have ended := t.onWalker_moves (d := 1) (e := 0)
    (fun w => { w with status := .idle, walk := .none, takes := w.takes + 1, haltPending := none, stopping := false })
    fun k => by
      have taking := k.taking
      obtain ⟨-, few, one⟩ := k
      rw [if_pos taking] at one
      have three := few (by rw [taking]; exact Walk.noConfusion)
      exact ⟨Nat.succ_le_succ three, fun walks => absurd rfl walks, Nat.succ.inj one⟩
  have idle : (t.onWalker fun w =>
      { w with status := .idle, walk := .none, takes := w.takes + 1, haltPending := none, stopping := false }).walker.walk ≠
        .taking := Walk.noConfusion
  split
  · exact ended.trans (State.enterHalted_keeps _ _ idle).moves
  · split
    · exact ended.trans (State.endWalk_keeps _ _ idle).moves
    · split
      · next few => exact ended.trans (State.look_moves _ ⟨rfl, Nat.le_of_lt_succ few⟩)
      · exact ended

theorem State.resumeTake_moves (awaited : Bool) :
    s.Moves (if awaited then 1 else 0) 0 (s.resumeTake awaited) := by
  unfold State.resumeTake
  cases awaited with
  | false => exact State.Keeps.moves (.refl s)
  | true =>
    show s.Moves 1 0 _
    split
    · exact s.finishTake_moves
    · next no => exact ⟨rfl, id, id, fun k => absurd ⟨rfl, k.taking⟩ no, id⟩

/-! ### The retire path (01 1.5) -/

/-- The request at the head is served: where the take has awaited it, the take lacks it now. -/
theorem State.dropRequest_moves {q : Request} {rest : List Request} (head : s.retire = q :: rest) :
    s.Moves 0 (if q.isAwaited then 1 else 0) s.dropRequest := by
  refine ⟨rfl, id, fun b => ⟨b.queues, b.lines, b.router, b.groups, b.activity, b.supervision⟩, fun k => ?_, id⟩
  obtain ⟨most, few, one⟩ := k
  refine ⟨most, few, ?_⟩
  rw [head, List.filter_cons] at one
  show (s.retire.tail.filter Request.isAwaited).length + _ = if s.walker.walk = .taking then 1 else 0
  rw [← one, head]
  cases q.isAwaited <;> rfl

theorem State.serveHeld_moves : s.Moves 0 0 s.serveHeld := by
  unfold State.serveHeld
  split
  · next off awaited rest head =>
    have written := (s.dropRequest.writeByte_only off stateHeld).keeps
    refine (s.dropRequest_moves head).trans (State.Moves.trans (State.Keeps.moves ?_) (State.resumeTake_moves _ awaited))
    exact written.ite (written.trans (State.busHalt_keeps _))
  · exact State.Keeps.moves (.refl s)

theorem State.retired_keeps (h : Held) (o : OutcomeCode) : s.Keeps (s.retired h o) := by
  unfold State.retired
  have counted := (s.onWalker_keeps (fun w => { w with retireCount := w.retireCount + 1 }) rfl rfl).trans
    (State.raiseIf_keeps _ h.notify .retire)
  exact (counted.trans (State.haltEvent_keeps _ _)).ite counted

theorem State.serveRetirement_moves : s.Moves 0 0 s.serveRetirement := by
  unfold State.serveRetirement
  split
  · next h o detail results awaited rest head =>
    have written := (s.dropRequest.writes_only (retireWrites s.nextCount h o detail results)).keeps
    refine (s.dropRequest_moves head).trans (State.Moves.trans (State.Keeps.moves ?_) (State.resumeTake_moves _ awaited))
    exact (written.trans (State.retired_keeps _ _ _)).ite (written.trans (State.busHalt_keeps _))
  · exact State.Keeps.moves (.refl s)

/-! ### The takes (01 R11) -/

/-- A take command, given what its owner does with a record that it has room for. -/
theorem State.takeWith_moves (mine : WorkRecord → Bool) (owner : State → WorkRecord → State)
    (h : ∀ r, mine r = true → s.ownerFull r = false → (taken s r).Moves 1 0 (owner (taken s r) r)) :
    s.Moves 0 0 (s.takeWith mine owner) := by
  unfold State.takeWith
  split
  · next r found =>
    have notTaking : s.walker.walk ≠ .taking := by rw [found]; exact Walk.noConfusion
    split
    · next isMine =>
      split
      · exact (s.endWalk_keeps _ notTaking).moves
      · next room =>
        refine (s.startTake_moves _ notTaking fun k => ?_).trans (h r isMine (by simpa using room))
        obtain ⟨-, few, -⟩ := k
        exact few (by rw [found]; exact Walk.noConfusion)
    · exact State.Keeps.moves (.refl s)
  · exact State.Keeps.moves (.refl s)
  · exact State.Keeps.moves (.refl s)

theorem State.takeEnding_moves (mine : WorkRecord → Bool) (own : State → WorkRecord → OutcomeCode × Octet × State)
    (h : ∀ (s : State) r, s.Keeps (own s r).2.2) : s.Moves 0 0 (s.takeWith mine (ending own)) :=
  s.takeWith_moves _ _ fun r _ _ => (h _ r).moves.trans (State.endTake_moves _ _ _ _)

theorem State.setNode_keeps (r : WorkRecord) : s.Keeps (s.setNode r).2.2 := by
  unfold State.setNode
  dsimp only
  split
  · exact .refl s
  · split
    · exact .refl s
    · split
      · exact .refl s
      · exact s.onRouter_keeps (fun t => { t with node := r.byte 0 0, table := tabulate 8 fun i => List.getD _ i.val none }) id

theorem State.keepChange_moves (r : WorkRecord) (c : Change) : s.Moves 1 0 (s.keepChange r c) :=
  (s.keepTake_moves _).trans (State.onSwitch_keeps _ _ rfl rfl rfl .inl).moves

theorem State.takeEditMap_moves (r : WorkRecord) : s.Moves 1 0 (s.takeEditMap r) := by
  unfold State.takeEditMap
  split
  · exact s.endTake_moves _ _ _
  · exact s.keepChange_moves _ _

theorem State.takeDropTag_moves (r : WorkRecord) : s.Moves 1 0 (s.takeDropTag r) :=
  (s.endTake_moves _ _ _).ite (s.keepChange_moves _ _)

theorem State.takeEnter_moves (r : WorkRecord) : s.Moves 1 0 (s.takeEnter r) :=
  (s.enterFallback_keeps.moves.trans (State.endTake_moves _ _ _ _)).ite (s.endTake_moves _ _ _)

theorem State.takeRecover_moves (r : WorkRecord) : s.Moves 1 0 (s.takeRecover r) :=
  ((s.keepChange_moves _ _).ite (s.endTake_moves _ _ _)).ite (s.endTake_moves _ _ _)

theorem State.takeRecall_moves (r : WorkRecord) : s.Moves 1 0 (s.takeRecall r) := by
  unfold State.takeRecall
  have emptied := s.onRouter_keeps (fun t => { t with listens := [] }) fun h => ⟨Nat.zero_le 8, h.2⟩
  exact (emptied.trans (State.Keeps.foldl (fun s h => s.requestRetire_keeps h _ _ _) _ _)).moves.trans
    (State.endTake_moves _ _ _ _)

/-! The owners whose room the take asks for. -/

theorem State.collectionFull_of {r : WorkRecord} (room : s.ownerFull r = false) :
    s.collectionFull r = false ∧ s.outboundFull r = false := Bool.or_eq_false_iff.1 room

theorem State.takeListen_moves (r : WorkRecord) (room : s.router.listens.length ≤ 7) : s.Moves 1 0 (s.takeListen r) := by
  refine (s.keepTake_moves _).trans (State.onRouter_keeps _ _ fun h => ⟨?_, h.2⟩).moves
  rw [List.length_append]
  exact Nat.succ_le_succ room

theorem State.routeFull_out {dest : Octet} {p : Port} (out : s.route dest = .out p) : s.routeFull dest = !s.queueFree p := by
  unfold State.routeFull
  rw [out]

theorem State.takeSend_moves (r : WorkRecord) (room : sendFault r = none → s.routeFull (r.byte 0 0) = false) :
    s.Moves 1 0 (s.takeSend r) := by
  unfold State.takeSend
  split
  · exact s.endTake_moves _ _ _
  · next good =>
    dsimp only
    split
    · split
      · next t delivered => exact (s.deliver_keeps delivered).moves.trans (State.endTake_moves _ _ _ _)
      · exact s.endTake_moves _ _ _
    · exact s.endTake_moves _ _ _
    · exact s.endTake_moves _ _ _
    · next p out =>
      have free := room good
      rw [s.routeFull_out (dest := r.byte 0 0) out] at free
      replace free : s.queueFree p = true := by simpa using free
      exact (s.keepTake_moves _).trans (State.enqueue_keeps (s.keepTake r.held) p _ free).moves

theorem State.takeProbe_moves (r : WorkRecord) (room : probeFault r = none → s.routeFull (r.byte 0 0) = false)
    (list : probeFault r = none → s.routesOut (r.byte 0 0) = true → s.router.probes.length ≤ 3) :
    s.Moves 1 0 (s.takeProbe r) := by
  unfold State.takeProbe
  split
  · exact s.endTake_moves _ _ _
  · next good =>
    dsimp only
    split
    · exact s.endTake_moves _ _ _
    · exact s.endTake_moves _ _ _
    · exact s.endTake_moves _ _ _
    · next p out =>
      have free := room good
      rw [s.routeFull_out (dest := r.byte 0 0) out] at free
      replace free : s.queueFree p = true := by simpa using free
      have few := list good (by unfold State.routesOut; rw [show s.route (r.byte 0 0) = .out p from out])
      refine ((s.keepTake_moves _).trans (State.enqueue_keeps (s.keepTake r.held) p _ free).moves).trans
        (State.onRouter_keeps _ _ fun h => ⟨h.1, ?_⟩).moves
      rw [List.length_append]
      exact Nat.succ_le_succ few

theorem WorkRecord.isKind_iff {r : WorkRecord} {k : Kind} : r.isKind k = true ↔ kindOf r.kind = some k := by
  unfold WorkRecord.isKind
  exact beq_iff_eq

theorem State.listen_moves : s.Moves 0 0 (s.takeWith (ofKind .listen) State.takeListen) := by
  refine s.takeWith_moves _ _ fun r mine room => State.takeListen_moves _ r ?_
  obtain ⟨pool, -⟩ := s.collectionFull_of room
  unfold State.collectionFull at pool
  rw [WorkRecord.isKind_iff.1 mine] at pool
  have : ¬ 8 ≤ s.router.listens.length := of_decide_eq_false pool
  exact Nat.le_of_lt_succ (Nat.lt_of_not_le this)

theorem State.send_moves : s.Moves 0 0 (s.takeWith (ofKind .send) State.takeSend) := by
  refine s.takeWith_moves _ _ fun r mine room => State.takeSend_moves _ r fun good => ?_
  obtain ⟨-, queue⟩ := s.collectionFull_of room
  unfold State.outboundFull at queue
  rw [WorkRecord.isKind_iff.1 mine] at queue
  have free : s.routeFull (r.byte 0 0) = false := by simpa [good] using queue
  exact free

theorem State.probe_moves : s.Moves 0 0 (s.takeWith (ofKind .probe) State.takeProbe) := by
  refine s.takeWith_moves _ _ fun r mine room => State.takeProbe_moves _ r (fun good => ?_) fun good out => ?_
  · obtain ⟨-, queue⟩ := s.collectionFull_of room
    unfold State.outboundFull at queue
    rw [WorkRecord.isKind_iff.1 mine] at queue
    have free : s.routeFull (r.byte 0 0) = false := by simpa [good] using queue
    exact free
  · obtain ⟨list, -⟩ := s.collectionFull_of room
    unfold State.collectionFull at list
    rw [WorkRecord.isKind_iff.1 mine] at list
    have out' : s.routesOut (r.byte 0 0) = true := out
    simp only [good, out', Option.isNone_none, Bool.true_and, decide_eq_false_iff_not] at list
    show s.router.probes.length ≤ 3
    omega

end

end Sys2Proof.Machine
end

section
/-! PROOFS. What registers, resets, boundaries and every command keep; the four invariants. -/

namespace Sys2Proof.Machine

/-! ### Registers (10) -/

section
variable (s : State)

theorem State.headerWrites_keeps : s.Keeps s.headerWrites := by
  unfold State.headerWrites
  dsimp only
  have write (s : State) (off : Offset) :
      s.Keeps (if (s.writeWord off 0).1 then (s.writeWord off 0).2 else (s.writeWord off 0).2.busHalt) :=
    (s.writeWord_only off 0).keeps.ite ((s.writeWord_only off 0).keeps.trans (State.busHalt_keeps _))
  exact ((write s 0x04).trans (write _ 0x08)).ite (write s 0x04)

theorem State.headerWritten_keeps : s.Keeps s.headerWritten := by
  unfold State.headerWritten
  refine ((s.onWalker_keeps (fun w => { w with headerWritten := true }) rfl rfl).trans (State.Keeps.foldl (fun s p => s.onLine_keeps p (fun l => { l with statusDue := true }) id) allPorts _)).trans ?_
  exact (State.onActivity_keeps _ _ fun a => ⟨a.threshold, a.onset, a.hang, a.slots⟩).trans
    (State.onSupervision_keeps _ _ (fun v => v.of_numbers rfl rfl rfl rfl rfl rfl rfl) rfl rfl)

theorem State.headerInit_keeps : s.Keeps s.headerInit :=
  (State.Keeps.refl s).ite (s.headerWrites_keeps.trans (State.headerWritten_keeps _))

theorem State.startRun_keeps : s.Keeps s.startRun := by
  unfold State.startRun
  have runs := s.onRegs_keeps fun r => { r with run := true }
  dsimp only
  exact ((runs.trans (State.onWalker_keeps _ _ rfl rfl)).ite runs).trans (State.headerInit_keeps _)

theorem State.stopRun_keeps : s.Keeps s.stopRun := by
  refine (s.onRegs_keeps fun r => { r with run := false }).trans ?_
  by_cases taking : s.walker.walk = .taking
  · refine State.onWalker_keeps _ _ ?_ ?_ <;> simp [taking]
  · by_cases stopped : s.walker.status = .halted
    · refine State.onWalker_keeps _ _ ?_ ?_ <;> simp [taking, stopped]
    · refine State.endsWalk_keeps _ _ ?_ ?_ taking <;> simp [taking, stopped]

theorem State.writeRun_keeps (value : Bool) : s.Keeps (s.writeRun value) :=
  (State.Keeps.refl s).ite (s.startRun_keeps.ite s.stopRun_keeps)

theorem State.resumeWalker_keeps : s.Keeps s.resumeWalker := (s.onWalker_keeps _ rfl rfl).ite (.refl s)

end

/-! ### Resets (10 R183) -/

theorem State.reset_bounded : State.reset.Bounded := by
  refine (inRange_iff _).1 ?_
  unfold InRange
  decide

theorem State.reset_takes : TakeLacks 0 State.reset := by
  unfold TakeLacks
  decide

theorem State.reset_refs : ReferencesCounted State.reset := by
  unfold ReferencesCounted
  decide +kernel

/-- A reset gives every block its reset values, which satisfy the invariants; memory and the queue stay. -/
theorem State.blocksReset_moves (s : State) : s.Moves 0 0 s.blocksReset := by
  refine ⟨rfl, id, fun _ => ?_, fun _ => State.reset_takes, fun _ => State.reset_refs⟩
  obtain ⟨queues, lines, router, groups, activity, supervision⟩ := State.reset_bounded
  exact ⟨queues, lines, router, groups, activity, supervision⟩

theorem State.cutWork_moves (s : State) (w : Interrupted) : s.Moves 0 0 (s.cutWork w) := by
  cases w with
  | headerInit => exact s.headerInit_keeps.moves
  | heldWrite => exact s.serveHeld_moves
  | retirement => exact s.serveRetirement_moves
  | queryMap => exact s.takeEnding_moves _ _ State.queryMap_keeps
  | openStream => exact s.takeEnding_moves _ _ State.openStream_keeps
  | closeStream => exact s.takeEnding_moves _ _ State.closeStream_keeps
  | handover n => exact (s.handover_keepsRefs n).toKeeps.moves

theorem State.applyCut_keeps (s : State) (c : Cut) : s.Keeps (s.applyCut c) :=
  State.OnlyMemory.keeps ⟨rfl, fun wf => (State.cutWork_moves (s.setBus { cycles := c.cycles, cut := true }) c.work).mem wf⟩

theorem State.applyCuts_keeps (s : State) (cuts : List Cut) : s.Keeps (s.applyCuts cuts) :=
  (State.Keeps.refl s).ite (State.Keeps.foldl State.applyCut_keeps _ s)

theorem State.powerOn_moves (s : State) : s.Moves 0 0 s.powerOn :=
  s.blocksReset_moves.trans (State.onRegs_keeps _ _).moves

theorem State.soft_moves (s : State) : s.Moves 0 0 s.soft := by
  unfold State.soft
  have based := s.blocksReset_moves.trans (State.onRegs_keeps _ fun r => { r with areaBase := s.regs.areaBase }).moves
  exact based.trans (State.onSupervision_keeps _ _ (fun v => v.of_numbers rfl rfl rfl rfl rfl rfl rfl) rfl rfl).moves

/-! ### The work of a boundary -/

section
variable (s : State)

theorem State.blockWork_keeps (late : List StreamNo) : s.Keeps (s.blockWork late) := by
  unfold State.blockWork
  dsimp only
  split
  · have marked := (s.onTimer_keeps (fun t => { t with blockDue := false }) rfl).trans (State.activityBlock_keeps _)
    have exchanged := marked.trans (State.Keeps.foldl (fun s n => (s.blockStream_keepsRefs n late).toKeeps) allStreams _)
    exact (exchanged.trans (State.tickProbes_keeps _)).trans (State.tickReset_keeps _)
  · exact .refl s

theorem State.settlePort_keeps (p : Port) : s.Keeps (s.settlePort p) := by
  have line := ((s.quietCountLoss_keeps p).trans (State.wakeCountReady_keeps _ p)).trans (State.lostTimerExpiry_keeps _ p)
  have sends := ((line.trans (State.senderWork_keeps _ p)).trans (State.receiverWork_keeps _ p)).trans
    (State.takeTimeout_keeps _ p)
  have timers := ((sends.trans (State.quitTimerExpiry_keeps _ p)).trans (State.stallTimerExpiry_keeps _ p)).trans
    (State.haltTimerExpiry_keeps _ p)
  have identified := (timers.trans (State.identify_keeps _ p)).trans (State.identifyTimeout_keeps _ p)
  exact (identified.trans (State.retryHolding_keeps _ p)).trans (State.expireHolding_keeps _ p)

theorem State.settleSupervision_keeps : s.Keeps s.settleSupervision :=
  ((s.releaseReset_keeps.trans (State.advance_keeps _)).trans (State.turnPhase_keeps _)).trans (State.periodEnd_keeps _)

/-- What is left of a boundary, up to the walk. -/
theorem State.settleRest_keeps : s.Keeps ((((([0, 1, 2, 3].foldl (fun s (_ : Nat) => s.expireProbe)
    (allPorts.foldl State.settlePort (allStreams.foldl State.streamWork (s.blockWork []).scanStep).judgeWork)).settleSupervision).formWork
      false)).sourcesWork) := by
  have block := (s.blockWork_keeps []).trans (State.scanStep_keeps _)
  have octets := (block.trans (State.allStreams_keeps _)).trans (State.judgeWork_keeps _)
  have ports := octets.trans (State.Keeps.foldl State.settlePort_keeps allPorts _)
  have probes := ports.trans (State.Keeps.foldl (fun s (_ : Nat) => s.expireProbe_keeps) [0, 1, 2, 3] _)
  exact ((probes.trans (State.settleSupervision_keeps _)).trans (State.formWork_keeps _ false)).trans
    (State.sourcesWork_keeps _)

theorem State.settle_moves : s.Moves 0 0 s.settle := by
  unfold State.settle
  dsimp only
  exact s.settleRest_keeps.moves.trans (State.walkWork_moves _)

theorem State.onTimer_moves (f : FrameTimer → FrameTimer) {d : Nat} : s.Moves d d (s.onTimer f) :=
  ⟨rfl, id, fun b => ⟨b.queues, b.lines, b.router, b.groups, b.activity, b.supervision⟩, id, id⟩

theorem State.doWork_moves (w : BoundaryWork) : s.Moves 0 0 (s.doWork w) :=
  match w with
  | .stream n => (s.streamWork_keepsRefs n).toKeeps.moves
  | .activity => s.judgeWork_keeps.moves
  | .period => s.advance_keeps.moves
  | .sender p => (s.senderWork_keeps p).moves
  | .receiver p => (s.receiverWork_keeps p).moves
  | .retry p => (s.retryHolding_keeps p).moves
  | .switch overlayFirst => (s.formWork_keeps overlayFirst).moves
  | .sources => s.sourcesWork_keeps.moves
  | .walk => s.walkWork_moves
  | .passed => s.settle_moves.trans (s.settle.onTimer_moves fun t => { t with passed := true })

theorem Stream.edge_namedAlike (block : Bool) (t : Stream) : t.NamedAlike (t.edge block) := by
  refine ⟨rfl, ?_⟩
  unfold Stream.edge
  dsimp only
  rw [Option.map_map]
  rfl

theorem State.makeDue_keeps : s.Keeps s.makeDue := by
  unfold State.makeDue
  dsimp only
  have switched := s.onSwitch_keeps
    (fun w => { w with changeDue := w.slot.isSome, overlayDue := w.overlayOrder, formDue := true, sourcesDue := true })
    rfl rfl rfl .inr
  have judged := switched.trans (State.onActivity_keeps _
    (fun a => { a with judgeDue := true, classifyDue := s.atBlock, counted := Vector.replicate 120 false })
    fun a => ⟨a.threshold, a.onset, a.hang, a.slots⟩)
  refine (((judged.trans (State.streams_keeps _ _ fun n => ?_)).trans (State.onRouter_keeps _ _ fun h => ⟨h.1, ?_⟩)).trans
    (State.onSupervision_keeps _ _ (fun v => v.of_numbers rfl rfl rfl rfl rfl rfl rfl) rfl rfl)).trans
    (State.onWalker_keeps _ _ rfl rfl)
  · rw [mapAll_get]
    exact Stream.edge_namedAlike _ _
  · dsimp only
    rw [List.length_map]
    exact h.2

theorem State.edge_moves : s.Moves 0 0 s.edge := by
  unfold State.edge
  dsimp only
  have settled := s.settle_moves.trans (State.Keeps.foldl State.settleLine_keeps allPorts _).moves
  refine (settled.trans (State.onTimer_moves _ FrameTimer.edge)).trans (State.Keeps.moves ?_)
  exact (State.Keeps.foldl State.edgePort_keeps allPorts _).trans (State.makeDue_keeps _)

theorem State.works_moves (ws : List BoundaryWork) (s : State) : s.Moves 0 0 (ws.foldl State.doWork s) := by
  induction ws generalizing s with
  | nil => exact State.Keeps.moves (.refl s)
  | cons w ws ih => exact (s.doWork_moves w).trans (ih _)

end

/-! ### Every command -/

/-- The command answers, and its answer has moved from the state. -/
def Moved (s : State) (o : Host.Outcome State Fault Refusal) : Prop := ∃ t, o = .next t ∧ s.Moves 0 0 t

theorem whileReleased_moved (s : State) (f : State → State) (h : ∀ s : State, s.Moves 0 0 (f s)) : Moved s (whileReleased s f) := by
  unfold whileReleased
  split
  · exact ⟨s, rfl, State.Keeps.moves (.refl s)⟩
  · exact ⟨_, rfl, h s⟩

theorem whileReleasedBus_moved (s : State) (bus : List BusCycle) (f : State → State) (h : ∀ s : State, s.Moves 0 0 (f s)) :
    Moved s (whileReleasedBus s bus f) :=
  whileReleased_moved s _ fun s => (((s.setBus_keeps _).moves.trans (h _)).trans (State.setBus_keeps _ {}).moves)

theorem whileReleased_kept (s : State) (f : State → State) (h : ∀ s : State, s.Keeps (f s)) : Moved s (whileReleased s f) :=
  whileReleased_moved s f fun s => (h s).moves

theorem whileReleasedBus_kept (s : State) (bus : List BusCycle) (f : State → State) (h : ∀ s : State, s.Keeps (f s)) :
    Moved s (whileReleasedBus s bus f) := whileReleasedBus_moved s bus f fun s => (h s).moves

theorem takeEnding_moved (s : State) (mine : WorkRecord → Bool) (own : State → WorkRecord → OutcomeCode × Octet × State)
    (h : ∀ (s : State) r, s.Keeps (own s r).2.2) : Moved s (whileReleased s fun s => s.takeWith mine (ending own)) :=
  whileReleased_moved s _ fun s => (s.takeEnding_moves mine own h)

theorem take_moved (s : State) (mine : WorkRecord → Bool) (owner : State → WorkRecord → State)
    (h : ∀ (s : State) r, s.Moves 1 0 (owner s r)) : Moved s (whileReleased s fun s => s.takeWith mine owner) :=
  whileReleased_moved s _ fun s => (s.takeWith_moves mine owner fun _ _ _ => h _ _)

theorem exec_moved (c : Instr) (s : State) : Moved s (exec c s) := by
  cases c with
  | frameBoundary edge works bus =>
    refine whileReleasedBus_moved s bus _ fun s => ?_
    exact (State.Moves.ite s.edge_moves (State.Keeps.moves (.refl s))).trans (State.works_moves works _)
  | blockBoundary late bus => exact whileReleasedBus_kept s bus _ fun s => s.blockWork_keeps late
  | scanStep => exact whileReleased_kept s _ State.scanStep_keeps
  | powerOnReset cuts => exact ⟨_, rfl, (s.applyCuts_keeps cuts).moves.trans (State.powerOn_moves _)⟩
  | poresetRelease => exact ⟨_, rfl, (s.onRegs_keeps _).moves⟩
  | softReset value cuts =>
    refine whileReleased_moved s (fun s => if isResetCode value then (s.applyCuts cuts).soft else s) fun s => ?_
    exact ((s.applyCuts_keeps cuts).moves.trans (State.soft_moves _)).ite (State.Keeps.moves (.refl s))
  | run value bus => exact whileReleasedBus_kept s bus _ fun s => (State.Keeps.refl s).ite (s.writeRun_keeps _)
  | resume value bus =>
    exact whileReleasedBus_kept s bus _ fun s =>
      (State.Keeps.refl s).ite ((s.writeRun_keeps _).trans (State.resumeWalker_keeps _))
  | areaBase value => exact whileReleased_kept s _ fun s => (State.Keeps.refl s).ite (s.onRegs_keeps _)
  | attention value => exact whileReleased_kept s _ fun s => s.onRegs_keeps _
  | attentionEnable value => exact whileReleased_kept s _ fun s => s.onRegs_keeps _
  | registerWriteIgnored offset value lanes => exact whileReleased_kept s _ State.Keeps.refl
  | heldWrite bus => exact whileReleasedBus_moved s bus _ State.serveHeld_moves
  | retirement bus => exact whileReleasedBus_moved s bus _ State.serveRetirement_moves
  | nop => exact takeEnding_moved s _ _ fun s _ => .refl s
  | portSetup => exact takeEnding_moved s _ _ State.portSetup_keeps
  | setNode => exact takeEnding_moved s _ _ State.setNode_keeps
  | editMap => exact take_moved s _ _ State.takeEditMap_moves
  | dropTag => exact take_moved s _ _ State.takeDropTag_moves
  | queryMap bus => exact whileReleasedBus_moved s bus _ fun s => s.takeEnding_moves _ _ State.queryMap_keeps
  | setActivity => exact takeEnding_moved s _ _ State.setActivity_keeps
  | setScan => exact takeEnding_moved s _ _ State.setScan_keeps
  | scanControlHold => exact takeEnding_moved s _ _ State.scanControl_keeps
  | scanControlRelease => exact takeEnding_moved s _ _ State.scanControl_keeps
  | scanControlStep => exact takeEnding_moved s _ _ State.scanControl_keeps
  | scanControlSelect => exact takeEnding_moved s _ _ State.scanControl_keeps
  | openStream bus => exact whileReleasedBus_moved s bus _ fun s => s.takeEnding_moves _ _ State.openStream_keeps
  | closeStream bus => exact whileReleasedBus_moved s bus _ fun s => s.takeEnding_moves _ _ State.closeStream_keeps
  | send => exact whileReleased_moved s _ State.send_moves
  | listen => exact whileReleased_moved s _ State.listen_moves
  | probe => exact whileReleased_moved s _ State.probe_moves
  | recallPool => exact take_moved s _ _ State.takeRecall_moves
  | supervise => exact takeEnding_moved s _ _ State.supervise_keeps
  | pulse => exact takeEnding_moved s _ _ State.pulse_keeps
  | setFallback => exact takeEnding_moved s _ _ State.setFallback_keeps
  | enter => exact take_moved s _ _ State.takeEnter_moves
  | recover => exact take_moved s _ _ State.takeRecover_moves
  | receiveFrame p mark octets => exact whileReleased_kept s _ fun s => s.receiveFrame_keeps p mark octets
  | candidateMark p position => exact whileReleased_kept s _ fun s => s.candidateMark_keeps p position
  | aligned p => exact whileReleased_kept s _ fun s => s.alignedEvent_keeps p
  | misaligned p => exact whileReleased_kept s _ fun s => s.misalignedEvent_keeps p
  | wakeCountReady p => exact whileReleased_kept s _ fun s => s.wakeCountReady_keeps p
  | quietCountLoss p => exact whileReleased_kept s _ fun s => s.quietCountLoss_keeps p
  | identifyTimeout p => exact whileReleased_kept s _ fun s => s.identifyTimeout_keeps p
  | lostTimerExpiry p => exact whileReleased_kept s _ fun s => s.lostTimerExpiry_keeps p
  | identify p => exact whileReleased_kept s _ fun s => s.identify_keeps p
  | portStatusWrite p bus => exact whileReleasedBus_kept s bus _ fun s => s.portStatusWrite_keeps p
  | activityImageWrite words bus => exact whileReleasedBus_kept s bus _ fun s => s.activityImageWrite_keeps words
  | handover n bus => exact whileReleasedBus_kept s bus _ fun s => (s.handover_keepsRefs n).toKeeps
  | streamAccessCompletion n bus => exact whileReleasedBus_kept s bus _ fun s => (s.endAccess_keepsRefs n).toKeeps
  | takeTimeout p => exact whileReleased_kept s _ fun s => s.takeTimeout_keeps p
  | quitTimerExpiry p => exact whileReleased_kept s _ fun s => s.quitTimerExpiry_keeps p
  | stallTimerExpiry p => exact whileReleased_kept s _ fun s => s.stallTimerExpiry_keeps p
  | haltTimerExpiry p => exact whileReleased_kept s _ fun s => s.haltTimerExpiry_keeps p
  | holdingWaitExpiry p => exact whileReleased_kept s _ fun s => s.expireHolding_keeps p
  | noReply => exact whileReleased_kept s _ State.expireProbe_keeps
  | phaseSecond => exact whileReleased_kept s _ State.turnPhase_keeps
  | periodEnd => exact whileReleased_kept s _ State.periodEnd_keeps
  | resetOutRelease => exact whileReleased_kept s _ State.releaseReset_keeps
  | supervisionWordWrite bus => exact whileReleasedBus_kept s bus _ State.supervisionWordWrite_keeps

/-- A step takes its command out of the queue, which no invariant reads, and the command moves the rest. -/
theorem step_moves {s t : State} (h : step s = .next t) : ∃ u : State, u.Moves 0 0 t ∧ u = s.withPending u.pending := by
  unfold step at h
  split at h
  · cases h
    exact ⟨s, State.Keeps.moves (.refl s), rfl⟩
  · next c rest _ =>
    obtain ⟨u, answers, moved⟩ := exec_moved c (s.withPending rest)
    rw [answers] at h
    cases h
    exact ⟨s.withPending rest, moved, rfl⟩

/-- A property that does not read the queue, and that every move keeps, is kept by every step. -/
theorem kept_of_moves {P : State → Prop} (pending : ∀ (s : State) q, P s → P (s.withPending q))
    (moves : ∀ {s t : State}, s.Moves 0 0 t → P s → P t) : Kept P := by
  intro s t holds stepped
  obtain ⟨u, moved, same⟩ := step_moves stepped
  exact moves moved (same ▸ pending s _ holds)

/-- Settles O2: no command faults or is refused, and none touches the queue. -/
theorem everyCommandAnswers : Obligations.EveryCommandAnswers := by
  unfold Obligations.EveryCommandAnswers
  intro c s
  obtain ⟨t, answers, moved⟩ := exec_moved c s
  exact ⟨t, answers, moved.pending⟩

/-- Settles O56. -/
theorem memoryStaysCanonical : Obligations.MemoryStaysCanonical := by
  unfold Obligations.MemoryStaysCanonical
  exact kept_of_moves (fun _ _ h => h) State.Moves.mem

/-- Settles O57: `InRange` is the conjunction of the blocks' bounds, each of which its own operations keep. -/
theorem stateStaysInRange : Obligations.StateStaysInRange := by
  unfold Obligations.StateStaysInRange
  exact kept_of_moves (fun _ _ h => h) fun moved h => (inRange_iff _).2 (moved.bounded ((inRange_iff _).1 h))

/-- Settles O58: a take lacks its request only between its start and its owner's answer, and between a service and its end. -/
theorem takesKeepTheirRequest : Obligations.TakesKeepTheirRequest := by
  unfold Obligations.TakesKeepTheirRequest
  exact kept_of_moves (fun _ _ h => h) fun moved h => (takeHasItsRequest_iff _).2 (moved.takes ((takeHasItsRequest_iff _).1 h))

/-- Settles O59. -/
theorem referencesStayCounted : Obligations.ReferencesStayCounted := by
  unfold Obligations.ReferencesStayCounted
  exact kept_of_moves (fun _ _ h => h) State.Moves.refs

/-- Settles O60. -/
theorem invariantsAtReset : Obligations.InvariantsAtReset := by
  unfold Obligations.InvariantsAtReset
  exact ⟨rfl, (inRange_iff _).2 State.reset_bounded, State.reset_takes, State.reset_refs⟩

end Sys2Proof.Machine
end

section
/-! PROOFS. The queue, the resets and the register window: what a reset leaves of the state, what a write of CONTROL or AREA_BASE
does, and what each register shows. -/

namespace Sys2Proof.Machine

/-! ### The queue and the reset values -/

/-- Settles O1. -/
theorem stepTakesTheFrontCommand : Obligations.StepTakesTheFrontCommand := by
  refine ⟨fun c q s => rfl, fun s empty => ?_⟩
  unfold step
  rw [empty]

/-- Settles O3: the reset state is a closed term. -/
theorem resetValues : Obligations.ResetValues := by
  unfold Obligations.ResetValues
  simp [State.reset, State.attn, State.resetOut]

/-! ### The resets (10 R183) -/

/-- The cuts of a reset can touch memory alone. -/
theorem State.applyCuts_eq (s : State) (cuts : List Cut) : s.applyCuts cuts = { s with mem := (s.applyCuts cuts).mem } := by
  have fold (l : List Cut) (s : State) : l.foldl State.applyCut s = { s with mem := (l.foldl State.applyCut s).mem } := by
    induction l generalizing s with
    | nil => rfl
    | cons c l ih =>
      rw [List.foldl_cons, ih]
      rfl
  unfold State.applyCuts
  split
  · rfl
  · exact fold _ s

theorem State.applyCuts_nil (s : State) : s.applyCuts [] = s := ite_self s

theorem State.applyCuts_poreset (s : State) (cuts : List Cut) (hp : s.regs.poreset = true) : s.applyCuts cuts = s := if_pos hp

/-- While PORESET is asserted every command but those of PORESET does nothing. -/
theorem exec_poreset (c : Instr) (s : State) (hp : s.regs.poreset = true) (reset : ∀ cuts, c ≠ .powerOnReset cuts)
    (release : c ≠ .poresetRelease) : exec c s = .next s := by
  cases c with
  | powerOnReset cuts => exact absurd rfl (reset cuts)
  | poresetRelease => exact absurd rfl release
  | _ => exact if_pos hp

theorem State.readRegister_of {s t : State} (regs : s.regs = { t.regs with poreset := s.regs.poreset })
    (walker : s.walker = t.walker) (supervision : s.supervision = t.supervision) (offset : BitVec 5) :
    s.readRegister offset = t.readRegister offset := by
  unfold State.readRegister State.stateRegister
  rw [regs, walker, supervision]

/-- Settles O4: the cuts of a power-on reset reach memory alone, and none is made while PORESET is asserted. -/
theorem powerOnReset : Obligations.PowerOnReset := by
  refine ⟨⟨fun s => ?_, fun cuts s => ⟨(s.applyCuts cuts).mem, ?_, fun hp => ?_⟩, fun s => rfl⟩, ?_, fun cuts s t ht offset => ?_⟩
  · rw [exec_powerOnReset, s.applyCuts_nil]
    rfl
  · rw [exec_powerOnReset, s.applyCuts_eq]
    rfl
  · rw [s.applyCuts_poreset cuts hp]
  · exact exec_poreset
  · cases (exec_powerOnReset cuts s).symm.trans ht
    exact State.readRegister_of rfl rfl rfl offset

/-- Settles O5: the cuts of a soft reset reach memory alone. -/
theorem softReset : Obligations.SoftReset := by
  refine ⟨fun v s hp hv => ?_, fun v cuts s hp hv => ⟨(s.applyCuts cuts).mem, ?_⟩⟩
  · rw [exec_softReset v [] s hp hv, s.applyCuts_nil]
    rfl
  · rw [exec_softReset v cuts s hp hv, s.applyCuts_eq]
    rfl

/-! ### CONTROL (10 R178; 01 R21, R22) -/

section
variable {s : State} {v : Word} (bus : List BusCycle) (hp : s.regs.poreset = false) (hv : isResetCode v = false)
include hp hv

theorem exec_run (h1 : v.getLsbD 1 = false) : exec (.run v bus) s =
    .next (((s.setBus { cycles := bus, cut := false }).writeRun (v.getLsbD 0)).setBus {}) := by
  refine (whileReleasedBus_next s bus _ hp).trans ?_
  simp only [State.withBus, hv, h1, Bool.false_eq_true, or_self, if_false]

theorem exec_resume (h1 : v.getLsbD 1 = true) : exec (.resume v bus) s =
    .next (((s.setBus { cycles := bus, cut := false }).writeRun (v.getLsbD 0)).resumeWalker.setBus {}) := by
  refine (whileReleasedBus_next s bus _ hp).trans ?_
  simp only [State.withBus, hv, h1, Bool.false_eq_true, not_true, or_self, if_false]

end

theorem State.writeRun_same (s : State) {value : Bool} (h : value = s.regs.run) : s.writeRun value = s := if_pos h.symm

/-- RUN written 1 after the first setting of the reset period. -/
theorem State.writeRun_start (s : State) {value : Bool} (clear : s.regs.run = false) (set : value = true)
    (written : s.walker.headerWritten = true) : s.writeRun value = { s with
      regs := { s.regs with run := true }
      walker := { s.walker with status := if s.walker.status = .stopped then .idle else s.walker.status } } := by
  have starts : s.writeRun value = s.startRun := by simp [State.writeRun, clear, set]
  have noInit (t : State) (h : t.walker.headerWritten = true) : t.headerInit = t := if_pos h
  rw [starts]
  unfold State.startRun
  by_cases stopped : s.walker.status = .stopped
  · exact (congrArg State.headerInit (if_pos stopped)).trans ((noInit _ (by exact written)).trans (by rw [if_pos stopped]; rfl))
  · exact (congrArg State.headerInit (if_neg stopped)).trans ((noInit _ (by exact written)).trans (by rw [if_neg stopped]; rfl))

section
variable (s : State) {value : Bool} (set : s.regs.run = true) (clear : value = false)
include set clear

theorem State.writeRun_stop : s.writeRun value = s.stopRun := by simp [State.writeRun, set, clear]

theorem State.writeRun_between (between : s.walker.walk ≠ .taking) (running : s.walker.status ≠ .halted) :
    s.writeRun value = { s with
      regs := { s.regs with run := false }
      walker := { s.walker with status := .stopped, walk := .none, walkDue := false } } := by
  rw [s.writeRun_stop set clear]
  simp [State.stopRun, State.onRegs, State.onWalker, between, running]

theorem State.writeRun_halted (between : s.walker.walk ≠ .taking) (halted : s.walker.status = .halted) :
    s.writeRun value = { s with
      regs := { s.regs with run := false }
      walker := { s.walker with walkDue := false } } := by
  rw [s.writeRun_stop set clear]
  simp [State.stopRun, State.onRegs, State.onWalker, between, halted]

theorem State.writeRun_taking (taking : s.walker.walk = .taking) :
    s.writeRun value = { s with
      regs := { s.regs with run := false }
      walker := { s.walker with stopping := true, walkDue := false } } := by
  rw [s.writeRun_stop set clear]
  simp [State.stopRun, State.onRegs, State.onWalker, taking]

end

theorem State.resumeWalker_halted (s : State) (h : s.walker.status = .halted) : s.resumeWalker = { s with
    walker := { s.walker with status := if s.regs.run then .idle else .stopped, haltReason := .none } } := if_pos h

theorem State.resumeWalker_running (s : State) (h : s.walker.status ≠ .halted) : s.resumeWalker = s := if_neg h

/-- Settles O6. -/
theorem runWritten : Obligations.RunWritten := by
  intro v bus s hp hv h1
  have runs := exec_run bus hp hv h1
  refine ⟨fun same => ?_, fun clear set written => ?_, fun set clear between running => ?_, fun set clear between stops => ?_,
    fun set clear taking => ?_⟩
  · rw [runs, State.writeRun_same _ (by exact same)]
    rfl
  · rw [runs, State.writeRun_start _ (by exact clear) set (by exact written)]
    rfl
  · rw [runs, State.writeRun_between _ (by exact set) clear (by exact between) (by exact running)]
    rfl
  · rw [runs, State.writeRun_halted _ (by exact set) clear (by exact between) (by exact stops)]
    rfl
  · rw [runs, State.writeRun_taking _ (by exact set) clear (by exact taking)]
    rfl

/-- The write of RUN that a write with RESUME brings with it: the RESUME bit cleared. -/
theorem clearResume (v : Word) : isResetCode (v &&& 0xFFFFFFFD) = isResetCode v ∧ (v &&& 0xFFFFFFFD).getLsbD 1 = false ∧
    (v &&& 0xFFFFFFFD).getLsbD 0 = v.getLsbD 0 := by
  have code : (v &&& 0xFFFFFFFD).extractLsb' 8 8 = v.extractLsb' 8 8 := by
    rw [BitVec.extractLsb'_and]
    exact BitVec.and_allOnes
  refine ⟨by rw [isResetCode, code, isResetCode], ?_, ?_⟩
  · rw [BitVec.getLsbD_and]
    exact Bool.and_false _
  · rw [BitVec.getLsbD_and]
    exact Bool.and_true _

/-- Settles O8: RUN is written first, and RESUME then acts on the walker that this leaves. -/
theorem resumeWritten : Obligations.ResumeWritten := by
  intro v bus s hp hv h1
  have resumes := exec_resume bus hp hv h1
  refine ⟨fun same halts => ?_, fun same running => ?_, fun clear set halts written => ?_, fun set clear halts between => ?_, ?_⟩
  · rw [resumes, State.writeRun_same _ (by exact same), State.resumeWalker_halted _ (by exact halts)]
    rfl
  · rw [resumes, State.writeRun_same _ (by exact same), State.resumeWalker_running _ (by exact running)]
    rfl
  · have stays : (if s.walker.status = .stopped then WalkerStatus.idle else s.walker.status) = .halted := by rw [halts]; rfl
    rw [resumes, State.writeRun_start _ (by exact clear) set (by exact written), State.resumeWalker_halted _ stays]
    rfl
  · rw [resumes, State.writeRun_halted _ (by exact set) clear (by exact between) (by exact halts),
      State.resumeWalker_halted _ (by exact halts)]
    rfl
  · obtain ⟨code, noResume, runBit⟩ := clearResume v
    refine ⟨_, exec_run bus hp (code.trans hv) noResume, fun running => ?_, fun halts => ?_⟩
    · rw [runBit] at running ⊢
      rw [resumes, State.resumeWalker_running _ (by exact running)]
    · rw [runBit] at halts ⊢
      rw [resumes, State.resumeWalker_halted _ (by exact halts)]
      rfl

/-! ### AREA_BASE (10 R180) -/

/-- The twelve bits of AREA_BASE, in a word of their own. -/
theorem areaBase_word (v : Word) : v.extractLsb' 20 12 ++ (0 : BitVec 20) = v &&& 0xFFF00000 := by
  ext i hi
  rw [BitVec.getElem_append, BitVec.getElem_and]
  by_cases low : i < 20
  · interval_cases i <;> simp
  · have high : 20 + (i - 20) = i := by omega
    simp only [low, dif_neg, not_false_eq_true, BitVec.getElem_extractLsb', high, BitVec.getLsbD_eq_getElem hi]
    interval_cases i <;> simp at *

theorem exec_areaBase (v : Word) (s : State) (hp : s.regs.poreset = false) : exec (.areaBase v) s =
    .next (if s.regs.run then s else s.onRegs fun r => { r with areaBase := v.extractLsb' 20 12 }) :=
  whileReleased_next s (fun s => if s.regs.run then s else s.onRegs fun r => { r with areaBase := v.extractLsb' 20 12 }) hp

/-- Settles O9. -/
theorem areaBaseWritten : Obligations.AreaBaseWritten := by
  refine ⟨fun v s hp clear => ?_, fun v s hp set => ?_, fun s off => ?_, fun cuts s => ⟨_, exec_powerOnReset cuts s, ?_⟩,
    fun v cuts s hp hv => ⟨_, exec_softReset v cuts s hp hv, ?_⟩⟩
  · exact ⟨_, (exec_areaBase v s hp).trans (by rw [clear]; rfl), rfl, areaBase_word v⟩
  · exact (exec_areaBase v s hp).trans (by rw [set]; rfl)
  · rw [State.busAddress, BitVec.toNat_append, ← Nat.shiftLeft_add_eq_or_of_lt off.isLt, Nat.shiftLeft_eq]
  · exact (State.readRegister_of (t := State.reset) rfl rfl rfl 0x0C).trans (by decide)
  · rw [s.applyCuts_eq]
    rfl

/-! ### The reads of the window (10 R177 to R179) -/

/-- The fields of STATE, each in its own bits. -/
theorem stateFields (status reason mode : Nat) (fallback tripped : Bool) (h1 : status < 5) (h2 : reason < 4) (h3 : mode < 3) :
    let w : Word := BitVec.ofNat 32
      (status + 16 * reason + (if fallback then 256 else 0) + (if tripped then 512 else 0) + 4096 * mode)
    w.extractLsb' 0 3 = BitVec.ofNat 3 status ∧ w.getLsbD 3 = false ∧ w.extractLsb' 4 2 = BitVec.ofNat 2 reason ∧
    w.extractLsb' 6 2 = 0 ∧ w.getLsbD 8 = fallback ∧ w.getLsbD 9 = tripped ∧ w.extractLsb' 10 2 = 0 ∧
    w.extractLsb' 12 2 = BitVec.ofNat 2 mode ∧ w.extractLsb' 14 18 = 0 := by
  interval_cases status <;> interval_cases reason <;> interval_cases mode <;> cases fallback <;> cases tripped <;> decide

theorem State.readRegister_state (s : State) : s.readRegister 0x08 = s.stateRegister := rfl

theorem WalkerStatus.code_lt (w : WalkerStatus) : w.code < 5 := by cases w <;> decide

theorem HaltReason.code_lt (h : HaltReason) : h.code < 4 := by cases h <;> decide

theorem Mode.code_lt (m : Mode) : m.code.toNat < 3 := by cases m <;> decide

/-- Register numbers 6 and 7 are not of the window. -/
theorem State.readRegister_outside (s : State) (o : BitVec 5) (h : 0x18 ≤ o.toNat) : s.readRegister o = 0 := by
  have number : (o.extractLsb' 2 3).toNat = o.toNat / 4 % 8 := by simp [Nat.shiftRight_eq_div_pow]
  unfold State.readRegister
  rw [number]
  have := o.isLt
  split
  all_goals try omega
  rfl

/-- Settles O12. -/
theorem registerReads : Obligations.RegisterReads := by
  refine ⟨by decide, ⟨fun o v lanes s => ite_self _, fun s => rfl, fun s => ?_, fun s => ?_, State.readRegister_outside⟩,
    fun s => ?_⟩
  · show (if s.regs.run then (1 : Word) else 0).getLsbD 0 = s.regs.run ∧ (if s.regs.run then (1 : Word) else 0).extractLsb' 1 31 = 0
    cases s.regs.run <;> decide
  · show (s.regs.areaBase ++ (0 : BitVec 20)).extractLsb' 20 12 = _ ∧ (s.regs.areaBase ++ (0 : BitVec 20)).extractLsb' 0 20 = 0
    have bits (i : Nat) := BitVec.getLsbD_append (x := s.regs.areaBase) (y := (0 : BitVec 20)) (i := i)
    constructor
    · ext i hi
      rw [BitVec.getElem_extractLsb']
      exact (bits (20 + i)).trans (by simp [BitVec.getLsbD_eq_getElem hi])
    · ext i hi
      rw [BitVec.getElem_extractLsb']
      exact (bits (0 + i)).trans (by simp [hi])
  · have mode : BitVec.ofNat 2 s.supervision.mode.code.toNat = s.supervision.mode.code.setWidth 2 := by simp
    rw [s.readRegister_state, ← mode]
    exact stateFields _ _ _ _ _ s.walker.status.code_lt s.walker.haltReason.code_lt s.supervision.mode.code_lt

end Sys2Proof.Machine
end

section
/-! PROOFS. The common checks of a record, a look of the walker step by step on a quiet bus and at a bus error on each of its
reads, and the records that a full owner leaves untaken. -/

namespace Sys2Proof.Machine

/-! ### The common checks (01 R9) -/

/-- Settles O18. -/
theorem commonChecks_inOrder : Obligations.CommonChecks := by
  refine ⟨⟨by decide, by decide +kernel⟩, fun off header => ⟨fun long => ?_, fun len out => ?_, fun len fits unknown => ?_,
    fun k len fits known short => ?_, fun k len fits known enough => ?_⟩⟩
  · exact if_pos long
  · exact (if_neg (Nat.not_lt.2 len)).trans (if_pos out)
  all_goals
    unfold commonChecks
    dsimp only
    rw [if_neg (Nat.not_lt.2 len), if_neg (Nat.not_lt.2 fits)]
  · rw [unknown]
  · rw [known]
    exact if_pos short
  · rw [known]
    exact if_neg (Nat.not_lt.2 enough)

/-! ### Reads of a run of words -/

/-- The words that a run of `k` reads finds. -/
def State.wordsAt (s : State) (k : Nat) (off : Offset) : List Word :=
  (List.range k).map fun j => s.mem.readWord (s.busAddress (off + BitVec.ofNat 20 (4 * j)))

theorem State.wordsAt_succ (s : State) (k : Nat) (off : Offset) :
    s.wordsAt (k + 1) off = s.mem.readWord (s.busAddress off) :: s.wordsAt k (off + 4) := by
  have first : off + BitVec.ofNat 20 (4 * 0) = off := by simp
  have next (j : Nat) : off + 4 + BitVec.ofNat 20 (4 * j) = off + BitVec.ofNat 20 (4 * (j + 1)) := by
    rw [Nat.mul_succ, BitVec.ofNat_add, BitVec.add_assoc, BitVec.add_comm 4]
    rfl
  unfold State.wordsAt
  rw [List.range_succ_eq_map, List.map_cons, List.map_map, first]
  simp only [next]
  rfl

theorem State.readWords_quiet (s : State) (k : Nat) (off : Offset) (h : s.bus = {}) :
    s.readWords k off = (some (s.wordsAt k off), s) := by
  induction k generalizing off with
  | zero => rfl
  | succ k ih =>
    unfold State.readWords
    rw [s.readWord_quiet off h, s.wordsAt_succ]
    dsimp only
    rw [ih]

theorem State.readWords_cycles (k : Nat) (s : State) (off : Offset) (cs : List BusCycle)
    (h : s.bus.cycles = List.replicate k ({} : BusCycle) ++ cs) :
    s.readWords k off = (some (s.wordsAt k off), { s with bus := { s.bus with cycles := cs } }) := by
  induction k generalizing s off with
  | zero => rw [← show s.bus.cycles = cs by simpa using h]; rfl
  | succ k ih =>
    unfold State.readWords
    rw [State.readWord_cycles s off (List.replicate k ({} : BusCycle) ++ cs) (by simpa [List.replicate_succ] using h), s.wordsAt_succ]
    dsimp only
    rw [ih _ (off + 4) rfl]
    rfl

/-! ### The walk of a boundary (01 R6) -/

theorem exec_walk (s : State) (bus : List BusCycle) (hp : s.regs.poreset = false) :
    exec (.frameBoundary false [.walk] bus) s =
      .next ((s.setBus { cycles := bus, cut := false }).walkWork.setBus {}) :=
  whileReleasedBus_next s bus (fun s => [BoundaryWork.walk].foldl State.doWork s) hp

/-- The state in which the walk of a boundary makes its first look. -/
def State.walkBegun (s : State) (bus : List BusCycle) : State :=
  { s with bus := { cycles := bus, cut := false }, walker := { s.walker with walkDue := false, takes := 0 } }

/-- A walk that is due begins with a look. -/
theorem exec_walk_looks {s : State} (bus : List BusCycle) (hp : s.regs.poreset = false) (hr : s.regs.run = true)
    (due : s.walker.walkDue = true) (running : s.walker.status ≠ .halted) (idle : s.walker.walk = .none) :
    exec (.frameBoundary false [.walk] bus) s = .next ((s.walkBegun bus).look.setBus {}) := by
  have may : State.canWalk ((s.setBus { cycles := bus, cut := false }).onWalker fun w => { w with walkDue := false }) = true := by
    simp [State.canWalk, State.setBus, hr, running, idle]
  have begins : (s.setBus { cycles := bus, cut := false }).walkWork = (s.walkBegun bus).look := by
    unfold State.walkWork
    rw [if_pos (by exact due)]
    dsimp only
    rw [if_pos may]
    rfl
  rw [exec_walk s bus hp, begins]

theorem exec_walk_rests {s : State} (bus : List BusCycle) (hp : s.regs.poreset = false)
    (rests : s.walker.status = .halted ∨ s.regs.run = false) :
    exec (.frameBoundary false [.walk] bus) s = .next { s with bus := {}, walker := { s.walker with walkDue := false } } := by
  have mayNot (t : State) (h : t.walker.status = .halted ∨ t.regs.run = false) : t.canWalk = false := by
    rcases h with halted | clear
    · simp [State.canWalk, halted]
    · simp [State.canWalk, clear]
  have unmarked : (s.setBus { cycles := bus, cut := false }).walkWork =
      (s.setBus { cycles := bus, cut := false }).onWalker fun w => { w with walkDue := false } := by
    unfold State.walkWork
    split
    · dsimp only
      rw [mayNot _ (by exact rests)]
      rfl
    · next no =>
      have clear : s.walker.walkDue = false := Bool.eq_false_iff.2 no
      show _ = { s with walker := { s.walker with walkDue := false }, bus := { cycles := bus, cut := false } }
      rw [← clear]
      rfl
  rw [exec_walk s bus hp, unmarked]
  rfl

/-! ### The steps of a look (01 R6 to R10) -/

/-- A failed read of a look halts the walker at once. -/
theorem State.lookFails_eq (s : State) :
    (s.endWalk .idle).busHalt = withCause (withCause { s with walker := halted s.walker .bus } .bus) .chain :=
  State.busHalt_enters _ Walk.noConfusion WalkerStatus.noConfusion

theorem goodOffset_iff {link : Word} {off : Offset} : goodOffset? link = some off ↔
    (link.toNat % 4 = 0 ∧ 0x40 ≤ link.toNat ∧ link.toNat ≤ 0xFFFF0) ∧ link.setWidth 20 = off := by
  unfold goodOffset?
  split <;> simp [*]

section
variable {s t : State}

section
variable {a : Offset} (chain : s.walker.linkOffset = a) {link : Word} {off : Offset}
include chain

theorem State.look_fails (e : s.readWord a = (none, t)) : s.look = (t.endWalk .idle).busHalt := by
  unfold State.look
  rw [chain, e]

theorem State.look_none (e : s.readWord a = (some link, t)) (none_ : link = 0) : s.look = t.endWalk .idle := by
  unfold State.look
  rw [chain, e]
  exact if_pos none_

theorem State.look_badLink (e : s.readWord a = (some link, t)) (some_ : link ≠ 0) (bad : goodOffset? link = none) :
    s.look = (t.endWalk .idle).haltEvent .badLink := by
  unfold State.look
  rw [chain, e]
  dsimp only
  rw [if_neg some_, bad]

theorem State.look_record (e : s.readWord a = (some link, t)) (good : goodOffset? link = some off) :
    s.look = t.lookRecord off := by
  have some_ : link ≠ 0 := by
    rintro rfl
    exact absurd (goodOffset_iff.1 good).1.2.1 (by decide)
  unfold State.look
  rw [chain, e]
  dsimp only
  rw [if_neg some_, good]

end

variable {header : Word} {off : Offset}

theorem State.lookRecord_fails (e : s.readWord off = (none, t)) : s.lookRecord off = (t.endWalk .idle).busHalt := by
  unfold State.lookRecord
  rw [e]

theorem State.lookRecord_waits (e : s.readWord off = (some header, t)) (h : wordByte header 0 ≠ statePosted) :
    s.lookRecord off = t.endWalk .waiting := by
  unfold State.lookRecord
  rw [e]
  exact if_pos h

section
variable (e : s.readWord off = (some header, t)) (h : wordByte header 0 = statePosted) {u : State}
include e h

theorem State.lookRecord_restFails (e2 : t.readWords 3 (off + 4) = (none, u)) :
    s.lookRecord off = (u.endWalk .idle).busHalt := by
  unfold State.lookRecord
  rw [e]
  dsimp only
  rw [if_neg (not_not.2 h), e2]

variable {words : List Word} (e2 : t.readWords 3 (off + 4) = (some words, u))
include e2

theorem State.lookRecord_refused {o : OutcomeCode} (checks : commonChecks off header = .error o) :
    s.lookRecord off = (u.startTake off).endTake (heldOf off header) o 0 := by
  unfold State.lookRecord
  rw [e]
  dsimp only
  rw [if_neg (not_not.2 h), e2]
  dsimp only
  rw [checks]

theorem State.lookRecord_body {k : Kind} (checks : commonChecks off header = .ok k) :
    s.lookRecord off = u.lookBody off header := by
  unfold State.lookRecord
  rw [e]
  dsimp only
  rw [if_neg (not_not.2 h), e2]
  dsimp only
  rw [checks]

end

theorem State.lookBody_fails (e : s.readWords (wordByte header 3).toNat (off + 16) = (none, t)) :
    s.lookBody off header = (t.endWalk .idle).busHalt := by
  unfold State.lookBody
  rw [e]

/-- The body is read: the record found, or its owner full. -/
theorem State.lookBody_read {body : List Word} (e : s.readWords (wordByte header 3).toNat (off + 16) = (some body, t)) :
    s.lookBody off header =
      let r : WorkRecord := { held := heldOf off header, kind := wordByte header 1, body := body }
      if t.collectionFull r then t.endWalk .blocked
      else t.onWalker fun w => { w with status := .idle, walk := .found r } := by
  unfold State.lookBody
  rw [e]

end

/-- A walk that ends outside a take leaves nothing but its status. -/
theorem State.endWalk_idle (s : State) (status : WalkerStatus) (idle : s.walker.walk = .none) :
    s.endWalk status = { s with walker := { s.walker with status := status } } := by
  unfold State.endWalk State.onWalker
  rw [← idle]

/-! ### The look on a quiet bus -/

theorem Walker.linkOffset_eq {w : Walker} {a : Offset}
    (h : (w.chainStarted = false ∧ a = 0) ∨ ∃ c, w.chainStarted = true ∧ w.cursor = some c ∧ a = c + 4) : w.linkOffset = a := by
  unfold Walker.linkOffset
  rcases h with ⟨fresh, rfl⟩ | ⟨c, started, cursor, rfl⟩
  · rw [fresh]
  · rw [started, cursor]

theorem heldOf_fields (off : Offset) (header : Word) : (heldOf off header).offset = off ∧
    (heldOf off header).notify = header.getLsbD 16 ∧ (heldOf off header).haltOnFail = header.getLsbD 17 := by
  refine ⟨rfl, ?_, ?_⟩ <;> simp [heldOf, wordByte]

/-- Settles O17: the look goes from the link to the header to the body, each read once, and ends where the first of them says. -/
theorem lookOutcomes : Obligations.LookOutcomes := by
  refine ⟨heldOf_fields, fun s a hp hr due running idle chain => ?_⟩
  dsimp only
  rw [exec_walk_looks [] hp hr due running idle]
  have chainAt : (s.walkBegun []).walker.linkOffset = a := Walker.linkOffset_eq (w := (s.walkBegun []).walker) chain
  have read (off : Offset) : (s.walkBegun []).readWord off = (some (s.mem.readWord (s.busAddress off)), s.walkBegun []) :=
    State.readWord_quiet _ off rfl
  have words (k : Nat) (off : Offset) := State.readWords_quiet (s.walkBegun []) k off rfl
  have ends (status : WalkerStatus) := State.endWalk_idle (s.walkBegun []) status idle
  have record (good) := State.look_record chainAt (read a) (goodOffset_iff.2 ⟨good, rfl⟩)
  refine ⟨fun none_ => ?_, fun some_ bad => ?_, fun good notPosted => ?_, fun o good posted checks => ?_,
    fun k good posted checks full => ?_, fun k good posted checks room => ?_⟩
  · rw [State.look_none chainAt (read a) none_, ends]
    rfl
  · rw [State.look_badLink chainAt (read a) some_ (if_neg bad)]
    rfl
  · rw [record good, State.lookRecord_waits (read _) notPosted, ends]
    rfl
  · rw [record good, State.lookRecord_refused (read _) posted (words _ _) checks]
    rfl
  · rw [record good, State.lookRecord_body (read _) posted (words _ _) checks, State.lookBody_read (words _ _)]
    dsimp only
    rw [if_pos (by exact full), ends]
    rfl
  · rw [record good, State.lookRecord_body (read _) posted (words _ _) checks, State.lookBody_read (words _ _)]
    dsimp only
    rw [if_neg (by exact Bool.eq_false_iff.1 room)]
    rfl

/-! ### A bus error on a read of the look (01 R18, R19) -/

theorem errorAfter_add (j k : Nat) : errorAfter (j + k) = List.replicate j ({} : BusCycle) ++ errorAfter k := by
  unfold errorAfter
  rw [List.replicate_add, List.append_assoc]

section
variable (s : State) (off : Offset)

theorem State.walkBegun_reads (k : Nat) : (s.walkBegun (errorAfter (1 + k))).readWord off =
    (some (s.mem.readWord (s.busAddress off)), s.walkBegun (errorAfter k)) :=
  State.readWord_cycles _ off (errorAfter k) (errorAfter_add 1 k)

theorem State.walkBegun_readWords (n k : Nat) : (s.walkBegun (errorAfter (n + k))).readWords n off =
    (some (s.wordsAt n off), s.walkBegun (errorAfter k)) :=
  State.readWords_cycles n _ off (errorAfter k) (errorAfter_add n k)

theorem State.walkBegun_fails : (s.walkBegun (errorAfter 0)).readWord off = (none, s.walkBegun []) :=
  State.readWord_error _ off [] rfl

theorem State.walkBegun_readWords_fail {n k : Nat} (h : k < n) :
    (s.walkBegun (errorAfter k)).readWords n off = (none, s.walkBegun []) :=
  State.readWords_error n k _ off h [] (List.append_nil _).symm

end

/-- Settles O19: the reads of a look come in a fixed order, and the one that fails is the walk's last. -/
theorem noLookAndFailedLook : Obligations.NoLookAndFailedLook := by
  refine ⟨fun s bus hp rests => exec_walk_rests bus hp rests, fun s hp hr due running idle => ?_⟩
  have walks (k : Nat) := exec_walk_looks (errorAfter k) hp hr due running idle
  have fails (k : Nat) (h : (s.walkBegun (errorAfter k)).look = ((s.walkBegun []).endWalk .idle).busHalt) :
      exec (.frameBoundary false [.walk] (errorAfter k)) s = .next { withCause (withCause s .bus) .chain with
        bus := {}, walker := halted { s.walker with takes := 0 } .bus } := by
    rw [walks, h, State.lookFails_eq]
    rfl
  refine ⟨fails 0 (State.look_fails rfl (s.walkBegun_fails _)), fun a chain good1 good2 good3 => ?_⟩
  have chainAt (cs : List BusCycle) : (s.walkBegun cs).walker.linkOffset = a :=
    Walker.linkOffset_eq (w := (s.walkBegun cs).walker) chain
  have record (k : Nat) :=
    State.look_record (chainAt _) (s.walkBegun_reads a k) (goodOffset_iff.2 ⟨⟨good1, good2, good3⟩, rfl⟩)
  refine ⟨fails 1 ?_, fun posted => ⟨fun k low high => fails k ?_, fun kind k checks low high => fails k ?_⟩⟩
  · exact (record 0).trans (State.lookRecord_fails (s.walkBegun_fails _))
  · obtain ⟨j, rfl⟩ := Nat.exists_eq_add_of_le low
    have rest := s.walkBegun_readWords_fail ((s.mem.readWord (s.busAddress a)).setWidth 20 + 4) (show j < 3 by omega)
    rw [show 2 + j = 1 + (1 + j) by omega, record, State.lookRecord_restFails (s.walkBegun_reads _ j) posted rest]
  · obtain ⟨j, rfl⟩ := Nat.exists_eq_add_of_le low
    have body := s.walkBegun_readWords_fail ((s.mem.readWord (s.busAddress a)).setWidth 20 + 16) (Nat.lt_of_add_lt_add_left high)
    rw [show 5 + j = 1 + (1 + (3 + j)) by omega, record,
      State.lookRecord_body (s.walkBegun_reads _ _) posted (s.walkBegun_readWords _ 3 j) checks, State.lookBody_fails body]

/-! ### Full owners (01 R10) -/

theorem editMapFault_none {r : WorkRecord} : editMapFault r = none ↔
    1 ≤ (r.byte 0 0).toNat ∧ (r.byte 0 0).toNat ≤ 24 ∧ 1 + 2 * (r.byte 0 0).toNat ≤ r.body.length := by
  unfold editMapFault
  dsimp only
  split
  · next bad => exact ⟨fun h => (nomatch h), fun good => by omega⟩
  · split
    · next short => exact ⟨fun h => (nomatch h), fun good => by omega⟩
    · exact ⟨fun _ => by omega, fun _ => rfl⟩

theorem State.routesOut_iff {s : State} {dest : Octet} : s.routesOut dest = true ↔ ∃ p, s.route dest = .out p := by
  unfold State.routesOut
  cases s.route dest <;> simp

theorem State.collectionFull_iff (s : State) (r : WorkRecord) : s.collectionFull r = true ↔
    (kindOf r.kind = some .editMap ∧ editMapFault r = none ∧ s.switch.slot ≠ none) ∨
    (kindOf r.kind = some .dropTag ∧ r.byte 0 0 ≠ 0 ∧ s.switch.slot ≠ none) ∨
    (kindOf r.kind = some .fallbackControl ∧ r.byte 0 0 = 2 ∧ s.supervision.fallback = true ∧ s.switch.slot ≠ none) ∨
    (kindOf r.kind = some .listen ∧ 8 ≤ s.router.listens.length) ∨
    (kindOf r.kind = some .probe ∧ probeFault r = none ∧ (∃ p, s.route (r.byte 0 0) = .out p) ∧ 4 ≤ s.router.probes.length) := by
  have slot : s.switch.slot.isSome = true ↔ s.switch.slot ≠ none := Option.isSome_iff_ne_none
  unfold State.collectionFull WorkRecord.action
  cases kind : kindOf r.kind with
  | none => simp
  | some k => cases k <;> simp [slot, State.routesOut_iff, and_assoc]

/-- The owner has no room: the walker is BLOCKED, and nothing else changes. -/
theorem take_blocks {s : State} {k : Kind} {r : WorkRecord} (hf : Found s k r) (mine : WorkRecord → Bool)
    (owner : State → WorkRecord → State) (hm : mine r = true) (full : s.collectionFull r = true ∨ s.outboundFull r = true) :
    (whileReleased s fun s => s.takeWith mine owner) = .next (blocked s) :=
  take_full s k r mine owner hf hm (Bool.or_eq_true_iff.2 full)

/-- A message that resolves to a port with a full outbound queue. -/
theorem State.routeFull_of {s : State} {dest : Octet} {p : Port} (out : s.route dest = .out p)
    (full : 4 ≤ s.channels[p].queue.length) : s.routeFull dest = true := by
  rw [s.routeFull_out out]
  unfold State.queueFree
  simpa using full

/-- Settles O20. -/
theorem fullCollectionBlocks : Obligations.FullCollectionBlocks := by
  refine ⟨fun s r hf one most length full => ?_, fun s r hf tag full => ?_, fun s r hf action set full => ?_,
    fun s r hf full => ?_, fun s r p hf good out full => ?_, fun s r p hf good out full => ?_, State.collectionFull_iff⟩
  · exact take_blocks hf _ _ (ofKind_of _ r hf.2.2)
      (.inl ((s.collectionFull_iff r).2 (.inl ⟨hf.2.2, editMapFault_none.2 ⟨one, most, length⟩, full⟩)))
  · exact take_blocks hf _ _ (ofKind_of _ r hf.2.2) (.inl ((s.collectionFull_iff r).2 (.inr (.inl ⟨hf.2.2, tag, full⟩))))
  · exact take_blocks hf _ _ (by simp [fallbackAction, isKind_of _ r hf.2.2, action])
      (.inl ((s.collectionFull_iff r).2 (.inr (.inr (.inl ⟨hf.2.2, action, set, full⟩)))))
  · exact take_blocks hf _ _ (ofKind_of _ r hf.2.2)
      (.inl ((s.collectionFull_iff r).2 (.inr (.inr (.inr (.inl ⟨hf.2.2, full⟩))))))
  · exact take_blocks hf _ _ (ofKind_of _ r hf.2.2)
      (.inr (by simp [State.outboundFull, hf.2.2, good, State.routeFull_of out full]))
  · refine take_blocks hf _ _ (ofKind_of _ r hf.2.2) (full.imp (fun list => ?_) fun queue => ?_)
    · exact (s.collectionFull_iff r).2 (.inr (.inr (.inr (.inr ⟨hf.2.2, good, ⟨p, out⟩, list⟩))))
    · simp [State.outboundFull, hf.2.2, good, State.routeFull_of out queue]

end Sys2Proof.Machine
end

section
/-! PROOFS. The retirement at the head of the retire path: its writes, what follows them, and the end of the take that has
awaited it, on a quiet bus and at a bus error on each write. -/

namespace Sys2Proof.Machine

theorem State.raiseIf_eq (s : State) (b : Bool) (c : Cause) : s.raiseIf b c = if b then withCause s c else s := by
  cases b <;> rfl

/-! ### The writes of a retirement (01 R16) -/

/-- The outcome word: code, detail, and the low 16 bits of the count. -/
theorem outcomeWord_eq (count : Word) (code detail : Octet) :
    wordOf code detail (wordByte count 0) (wordByte count 1) = count.setWidth 16 ++ detail ++ code := by
  have low : wordByte count 1 ++ wordByte count 0 = count.setWidth 16 := by
    unfold wordByte
    ext i hi
    rw [BitVec.getElem_append, BitVec.getElem_setWidth]
    split
    · simp
    · have high : 8 + (i - 8) = i := by omega
      simp [high]
  rw [← low]
  rfl

/-- Memory after the writes of a retirement. -/
theorem retireWrites_stored (s : State) (count : Word) (h : Held) (o : OutcomeCode) (d : Octet) (results : List (Nat × Word)) :
    (retireWrites count h o d results).foldl (stored s) s.mem =
      (((results.foldl (fun m e => m.writeWord (s.busAddress (h.offset + 16 + BitVec.ofNat 20 (4 * e.1))) e.2) s.mem).writeWord
        (s.busAddress (h.offset + 12)) (count.setWidth 16 ++ d ++ o.code)).write
        (s.busAddress h.offset) (if o = .done then 0x04 else 0x05)).writeWord (s.busAddress 0x08) count := by
  unfold retireWrites
  rw [List.foldl_append, List.foldl_map, ← outcomeWord_eq]
  cases o <;> rfl

theorem retireWrites_length (count : Word) (h : Held) (o : OutcomeCode) (d : Octet) (results : List (Nat × Word)) :
    (retireWrites count h o d results).length = results.length + 3 := by
  simp [retireWrites]

/-! ### The command (01 R16 to R18) -/

theorem exec_retirement (s : State) (bus : List BusCycle) (hp : s.regs.poreset = false) :
    exec (.retirement bus) s = .next ((s.setBus { cycles := bus, cut := false }).serveRetirement.setBus {}) :=
  whileReleasedBus_next s bus State.serveRetirement hp

section
variable {s : State} {h : Held} {o : OutcomeCode} {d : Octet} {results : List (Nat × Word)} {awaited : Bool}
  {rest : List Request} (hr : s.retire = .retire h o d results awaited :: rest)
include hr

theorem State.serveRetirement_made {u : State} (e : s.dropRequest.writes (retireWrites s.nextCount h o d results) =
    ((retireWrites s.nextCount h o d results).length, u)) : s.serveRetirement = (u.retired h o).resumeTake awaited := by
  simp only [State.serveRetirement, hr, e, if_true]

theorem State.serveRetirement_failed {k : Nat} {u : State}
    (e : s.dropRequest.writes (retireWrites s.nextCount h o d results) = (k, u))
    (hk : k < (retireWrites s.nextCount h o d results).length) : s.serveRetirement = u.busHalt.resumeTake awaited := by
  simp only [State.serveRetirement, hr, e, if_neg (Nat.ne_of_lt hk)]

variable (hp : s.regs.poreset = false)
include hp

/-- The request at the head on a bus that has a good cycle for each of its writes. -/
theorem exec_retirement_cycles (cs : List BusCycle) :
    exec (.retirement (List.replicate (retireWrites s.nextCount h o d results).length ({} : BusCycle) ++ cs)) s = .next
    ((((s.servedFront cs ((retireWrites s.nextCount h o d results).foldl (stored s) s.mem)).retired h o).resumeTake awaited).setBus
      {}) := by
  rw [exec_retirement s _ hp, State.serveRetirement_made
    (s := s.setBus { cycles := List.replicate (retireWrites s.nextCount h o d results).length {} ++ cs }) hr
    (State.writes_cycles _ _ cs rfl)]
  rfl

theorem exec_retirement_quiet : exec (.retirement []) s = .next
    ((((s.servedFront [] ((retireWrites s.nextCount h o d results).foldl (stored s) s.mem)).retired h o).resumeTake awaited).setBus
      {}) := by
  rw [exec_retirement s _ hp, State.serveRetirement_made (s := s.setBus {}) hr (State.writes_quiet _ _ rfl)]
  rfl

theorem exec_retirement_error {k : Nat} (hk : k < (retireWrites s.nextCount h o d results).length) :
    exec (.retirement (errorAfter k)) s = .next
    (((s.servedFront [] (((retireWrites s.nextCount h o d results).take k).foldl (stored s) s.mem)).busHalt.resumeTake
      awaited).setBus {}) := by
  rw [exec_retirement s _ hp, State.serveRetirement_failed (s := s.setBus { cycles := errorAfter k }) hr
    (State.writes_error _ k _ hk [] (List.append_nil _).symm) hk]
  rfl

end

/-! ### What follows the writes (01 R16, R17) -/

/-- The count after a retirement, and RETIRE for a record with NOTIFY. -/
def State.counted (s : State) (h : Held) : State :=
  { (if h.notify then withCause s .retire else s) with walker := { s.walker with retireCount := s.walker.retireCount + 1 } }

theorem State.retired_eq (s : State) (h : Held) (o : OutcomeCode) : s.retired h o =
    if o ≠ .done ∧ h.haltOnFail then (s.counted h).haltEvent .recordFailed else s.counted h := by
  have counted : (s.onWalker fun w => { w with retireCount := w.retireCount + 1 }).raiseIf h.notify .retire = s.counted h := by
    rw [State.raiseIf_eq]
    unfold State.counted
    cases h.notify <;> rfl
  unfold State.retired
  rw [counted]

section
variable {s : State} {h : Held} {o : OutcomeCode}

theorem State.retired_counted (quiet : ¬ (o ≠ .done ∧ h.haltOnFail = true)) : s.retired h o = s.counted h := by
  rw [State.retired_eq, if_neg quiet]

theorem State.retired_halted (halted : s.walker.status = .halted) : s.retired h o = s.counted h := by
  have stays : (s.counted h).haltEvent .recordFailed = s.counted h := if_pos halted
  rw [State.retired_eq, stays, ite_self]

variable (fails : o ≠ .done ∧ h.haltOnFail = true) (running : s.walker.status ≠ .halted)
include fails running

theorem State.retired_halts (between : s.walker.walk ≠ .taking) : s.retired h o =
    withCause { s.counted h with walker := halted (s.counted h).walker .recordFailed } .chain := by
  have halts : (s.counted h).haltEvent .recordFailed = (s.counted h).enterHalted .recordFailed := by
    unfold State.haltEvent
    rw [if_neg (by exact running), if_neg (by exact between)]
  rw [State.retired_eq, if_pos fails, halts]
  rfl

theorem State.retired_pends (taking : s.walker.walk = .taking) : s.retired h o = { s.counted h with
    walker := { (s.counted h).walker with haltPending := some (s.walker.haltPending.getD .recordFailed) } } := by
  rw [State.retired_eq, if_pos fails, (s.counted h).haltEvent_taking .recordFailed taking running]
  rfl

end

/-- The codes of the outcomes, and that there are no others. -/
theorem outcomeCode_table : let table : List (OutcomeCode × Octet) := [
     (.done, 0x00), (.badKind, 0x01), (.badLength, 0x02), (.badField, 0x03), (.badOffset, 0x04), (.badSlot, 0x05),
     (.duplicate, 0x06), (.noStream, 0x07), (.inUse, 0x08), (.occupied, 0x09), (.isProtected, 0x0A), (.state, 0x0B),
     (.linkDown, 0x0C), (.noRoute, 0x0D), (.hopsExhausted, 0x0E), (.takeTimeout, 0x0F), (.peerHalt, 0x10), (.noListener, 0x11),
     (.congested, 0x12), (.noReply, 0x13), (.recalled, 0x14), (.busError, 0x15)]
   (∀ e ∈ table, e.1.code = e.2) ∧ ∀ o : OutcomeCode, ∃ e ∈ table, e.1 = o :=
  ⟨by decide, fun o => by cases o <;> decide⟩

/-- Settles O14. -/
theorem retirementServed : Obligations.RetirementServed := by
  refine ⟨outcomeCode_table, fun s h o d results rest hp hr => ?_⟩
  obtain rfl : rest = s.retire.tail := by simp [hr]
  have served := exec_retirement_quiet hr hp
  rw [retireWrites_stored] at served
  refine ⟨fun quiet => ?_, fun failed halts running between => ?_, fun failed halts running taking => ?_⟩
  · have counted (m : Memory) : (s.servedFront [] m).retired h o = (s.servedFront [] m).counted h := by
      rcases quiet with done | keeps | halted
      · exact State.retired_counted fun fails => fails.1 done
      · exact State.retired_counted fun fails => Bool.false_ne_true (keeps.symm.trans fails.2)
      · exact State.retired_halted halted
    rw [served, counted]
    unfold State.counted
    cases h.notify <;> rfl
  · rw [served, State.retired_halts ⟨failed, halts⟩ (by exact running) (by exact between)]
    unfold State.counted
    cases h.notify <;> rfl
  · rw [served, State.retired_pends ⟨failed, halts⟩ (by exact running) (by exact taking)]
    unfold State.counted
    cases h.notify <;> rfl

/-- Settles O16: the error on write `k` ends the retirement there, and is a halting event like any other. -/
theorem retirementBusError : Obligations.RetirementBusError := by
  intro s h o d results rest k hp hr hk
  obtain rfl : rest = s.retire.tail := by simp [hr]
  have failed := exec_retirement_error hr hp (k := k) (by rw [retireWrites_length]; exact hk)
  refine ⟨fun running between => ?_, fun running taking => ?_, fun halted => ?_⟩
  · rw [failed, State.busHalt_enters _ (by exact between) (by exact running)]
    rfl
  · rw [failed, State.busHalt_taking _ (by exact taking) (by exact running)]
    rfl
  · have raises (u : State) (h : u.walker.status = .halted) : u.busHalt = withCause u .bus := if_pos h
    rw [failed, raises _ (by exact halted)]
    rfl

/-! ### The retirement that the take in progress waits for (01 R11, R17) -/

/-- The halting event that is pending after the writes of a retirement within a take. -/
def State.pendingAfter (s : State) (h : Held) (o : OutcomeCode) : Option HaltReason :=
  if o ≠ .done ∧ h.haltOnFail = true then some (s.walker.haltPending.getD .recordFailed) else s.walker.haltPending

theorem State.retired_taking {s : State} {h : Held} {o : OutcomeCode} (taking : s.walker.walk = .taking)
    (running : s.walker.status ≠ .halted) : s.retired h o =
      { s.counted h with walker := { (s.counted h).walker with haltPending := s.pendingAfter h o } } := by
  unfold State.pendingAfter
  by_cases fails : o ≠ .done ∧ h.haltOnFail = true
  · rw [State.retired_pends fails running taking, if_pos fails]
  · rw [State.retired_counted fails, if_neg fails]
    rfl

theorem State.pendingAfter_quiet {s : State} {h : Held} {o : OutcomeCode} (none_ : s.walker.haltPending = none)
    (quiet : ¬ (o ≠ .done ∧ h.haltOnFail = true)) : s.pendingAfter h o = none := (if_neg quiet).trans none_

theorem State.pendingAfter_some {s : State} {h : Held} {o : OutcomeCode} {reason : HaltReason}
    (pends : s.walker.haltPending = some reason ∨
      (s.walker.haltPending = none ∧ (o ≠ .done ∧ h.haltOnFail = true) ∧ reason = .recordFailed)) :
    s.pendingAfter h o = some reason := by
  unfold State.pendingAfter
  rcases pends with before | ⟨none_, fails, rfl⟩
  · rw [before]
    exact ite_self _
  · rw [if_pos fails, none_]
    rfl

theorem State.pendingAfter_getD (s : State) (h : Held) (o : OutcomeCode) : (s.pendingAfter h o).getD .bus =
    s.walker.haltPending.getD (if o ≠ .done ∧ h.haltOnFail = true then .recordFailed else .bus) := by
  unfold State.pendingAfter
  split
  · rfl
  · rfl

section
variable {s : State} {h : Held} {o : OutcomeCode} {d : Octet} (hp : s.regs.poreset = false)
  (hr : s.retire = .retire h o d [] true :: s.retire.tail) (taking : s.walker.walk = .taking)
  (running : s.walker.status ≠ .halted)

/-- The writes of a retirement with no results, made up to `k`, leave memory so. -/
def State.retireMade (s : State) (h : Held) (o : OutcomeCode) (d : Octet) (k : Nat) : Memory :=
  ((retireWrites s.nextCount h o d []).take k).foldl (stored s) s.mem

theorem State.retireMade_all (s : State) (h : Held) (o : OutcomeCode) (d : Octet) :
    (retireWrites s.nextCount h o d []).foldl (stored s) s.mem = s.retireMade h o d 3 := rfl

/-- The state in which a take ends whose retirement has been made, with the bus cycles `cs` left. -/
def State.retiredTake (s : State) (h : Held) (o : OutcomeCode) (d : Octet) (cs : List BusCycle) : State :=
  { s with
    bus := { cycles := cs, cut := false }
    retire := s.retire.tail
    mem := s.retireMade h o d 3
    regs := if h.notify then (withCause s .retire).regs else s.regs
    walker := { s.walker with retireCount := s.walker.retireCount + 1, haltPending := s.pendingAfter h o } }

theorem State.retired_made {s : State} (taking : s.walker.walk = .taking) (running : s.walker.status ≠ .halted) (h : Held)
    (o : OutcomeCode) (d : Octet) (cs : List BusCycle) :
    (s.servedFront cs (s.retireMade h o d 3)).retired h o = s.retiredTake h o d cs := by
  rw [State.retired_taking (by exact taking) (by exact running)]
  unfold State.retiredTake State.counted
  cases h.notify <;> rfl

theorem State.retiredTake_run (s : State) (h : Held) (o : OutcomeCode) (d : Octet) (cs : List BusCycle) :
    (s.retiredTake h o d cs).regs.run = s.regs.run := by
  unfold State.retiredTake
  cases h.notify <;> rfl

include hp hr taking running

theorem exec_retirement_ends (cs : List BusCycle) (bus : List BusCycle) (hb : bus = List.replicate 3 ({} : BusCycle) ++ cs) :
    exec (.retirement bus) s = .next ((s.retiredTake h o d cs).finishTake.setBus {}) := by
  subst hb
  refine (exec_retirement_cycles hr hp cs).trans ?_
  rw [s.retireMade_all, State.retired_made taking running, State.resumeTake_awaited _ (by exact taking)]

theorem exec_retirement_ends_quiet :
    exec (.retirement []) s = .next ((s.retiredTake h o d []).finishTake.setBus {}) := by
  refine (exec_retirement_quiet hr hp).trans ?_
  rw [s.retireMade_all, State.retired_made taking running, State.resumeTake_awaited _ (by exact taking)]

theorem exec_retirement_ends_error {k : Nat} (hk : k < 3) : exec (.retirement (errorAfter k)) s = .next
    ((s.servedFront [] (s.retireMade h o d k)).busHalt.finishTake.setBus {}) := by
  refine (exec_retirement_error hr hp hk).trans ?_
  have still : (s.servedFront [] (s.retireMade h o d k)).busHalt.walker.walk = .taking := by
    rw [State.busHalt_taking _ (by exact taking) (by exact running)]
    exact taking
  exact congrArg (fun u => Host.Outcome.next (State.setBus u {})) (State.resumeTake_awaited _ still)

end

/-- Settles O15: the end of the take goes by the halting event that is pending then, by RUN and by the count of takes. -/
theorem retirementEndsTheTake : Obligations.RetirementEndsTheTake := by
  intro s h o d rest c hp hr taking running hc
  obtain rfl : rest = s.retire.tail := by simp [hr]
  have quiet := exec_retirement_ends_quiet hp hr taking running
  have run := s.retiredTake_run h o d []
  have cursor := (s.retiredTake h o d []).writeCursor_quiet c hc rfl
  refine ⟨fun none_ good => ?_, fun reason pends => ?_, fun k hk => ?_, fun reason hreason => ?_⟩
  · have nothing := State.pendingAfter_quiet none_ good
    refine ⟨fun hrun hstop htakes => ?_, fun hrun hstop htakes => ?_, fun hrun => ?_, fun hrun hstop => ?_⟩
    · rw [quiet, State.finishTake_ends cursor nothing (run.trans hrun) (.inr htakes)]
      unfold State.retiredTake
      cases h.notify <;> rfl
    · rw [quiet, State.finishTake_looks cursor nothing (run.trans hrun) hstop htakes]
      unfold State.retiredTake
      cases h.notify <;> rfl
    · rw [quiet, State.finishTake_stopped cursor nothing (run.trans hrun)]
      unfold State.retiredTake
      cases h.notify <;> rfl
    · rw [quiet, State.finishTake_ends cursor nothing (run.trans hrun) (.inl hstop)]
      unfold State.retiredTake
      cases h.notify <;> rfl
  · rw [quiet, State.finishTake_halts cursor (State.pendingAfter_some pends)]
    unfold State.retiredTake
    cases h.notify <;> rfl
  · rw [exec_retirement_ends_error hp hr taking running hk,
      State.finishTake_after_busHalt (s := s.servedFront [] (s.retireMade h o d k)) taking running hc rfl]
    interval_cases k <;> rfl
  · rw [exec_retirement_ends hp hr taking running [{ error := true }] (errorAfter 3) rfl,
      State.finishTake_cursor_error (s := s.retiredTake h o d _) taking running hc rfl, hreason, ← s.pendingAfter_getD h o]
    unfold State.retiredTake
    cases h.notify <;> rfl

end Sys2Proof.Machine
end

section
/-! PROOFS. Takes whose owners answer at once: PORT_SETUP, SET_NODE, QUERY_MAP and SET_ACTIVITY; and the changes that EDIT_MAP and
DROP_TAG leave in the pending-change slot. -/

namespace Sys2Proof.Machine

/-! ### A take whose owner answers -/

/-- The kinds that the walker takes whatever their owners hold. -/
abbrev Kind.endsAtTake (k : Kind) : Prop :=
  k ≠ .editMap ∧ k ≠ .dropTag ∧ k ≠ .fallbackControl ∧ k ≠ .send ∧ k ≠ .listen ∧ k ≠ .probe

section
variable {s : State} {k : Kind} {r : WorkRecord} (hf : Found s k r) (hk : k.endsAtTake)
  {own : State → WorkRecord → OutcomeCode × Octet × State} {o : OutcomeCode} {d : Octet} {u : State}
include hf hk

theorem take_answers (answer : own (taken s r) r = (o, d, u)) :
    (whileReleased s fun s => s.takeWith (ofKind k) (ending own)) = .next (u.endTake r.held o d) := by
  rw [take_ends s k r own hf hk, answer]

theorem take_answersBus {bus : List BusCycle}
    (answer : own (taken (s.setBus { cycles := bus, cut := false }) r) r = (o, d, u)) :
    (whileReleasedBus s bus fun s => s.takeWith (ofKind k) (ending own)) = .next ((u.endTake r.held o d).setBus {}) := by
  rw [take_endsBus s k r bus own hf hk]
  unfold ending
  dsimp only
  rw [answer]

/-- An owner that refuses the record leaves the state as it took it. -/
theorem take_refuses (answer : own (taken s r) r = (o, d, taken s r)) :
    (whileReleased s fun s => s.takeWith (ofKind k) (ending own)) = .next (ended s r o d) := take_answers hf hk answer

theorem take_refusesBus {bus : List BusCycle}
    (answer : own (taken (s.setBus { cycles := bus, cut := false }) r) r =
      (o, d, taken (s.setBus { cycles := bus, cut := false }) r)) :
    (whileReleasedBus s bus fun s => s.takeWith (ofKind k) (ending own)) = .next { ended s r o d with bus := {} } :=
  (take_answersBus hf hk answer).trans rfl

end

/-! ### The flush of a channel (07 R142) -/

/-- A flushed channel is as after reset, but for the marks of its due work. -/
theorem State.flush_channel (s : State) (p : Port) : (s.flush p).channels[p] =
    { senderDue := s.channels[p].senderDue, receiverDue := s.channels[p].receiverDue } := by
  rw [State.flush_eq]
  simp

theorem State.flushed_only (s : State) (p : Port) (new : LineUnit) :
    ({ s with lines := s.lines.set p new } : State).OnlyRouting (flushed s p new) := State.flushIf_only _ _ p

theorem State.flushed_channel (s : State) (p : Port) (new : LineUnit) (runs : s.lines[p].line.runs = true) :
    (flushed s p new).channels[p] =
      { senderDue := s.channels[p].senderDue, receiverDue := s.channels[p].receiverDue } := by
  have flushes : flushed s p new = ({ s with lines := s.lines.set p new } : State).flush p := if_pos runs
  rw [flushes, State.flush_channel]

theorem Vector.get_set_same {α : Type} {n : Nat} (v : Vector α n) (i : Fin n) (a : α) : (v.set i a)[i] = a := by simp

theorem Vector.get_set_other {α : Type} {n : Nat} (v : Vector α n) {i j : Fin n} (a : α) (h : j ≠ i) : (v.set i a)[j] = v[j] :=
  Vector.getElem_set_ne _ _ fun e => h (Fin.ext e.symm)

/-! ### PORT_SETUP (02 R35, R36) -/

theorem exec_portSetup (s : State) : exec .portSetup s =
    whileReleased s fun s => s.takeWith (ofKind .portSetup) (ending State.portSetup) := rfl

/-- What is taken back does not depend on the take. -/
theorem State.unsee_taken (s : State) (r : WorkRecord) (p : Port) : (taken s r).unsee p = taken (s.unsee p) r := by
  unfold State.unsee
  split
  · next seen => rw [if_pos (by exact seen)]; rfl
  · next unseen => rw [if_neg (by exact unseen)]

/-- An entry afresh: the line unit that an entry into QUIET, LOST or OFF starts from. -/
theorem LineUnit.enter_clears (l : LineUnit) {st : LineState} (clears : st.clearsPeerSeen = true) :
    l.enter st = { l with line := st, wakeCount := 0, quietCount := 0, peerSeen := false, statusDue := true } := by
  unfold LineUnit.enter
  rw [clears, Bool.not_true, Bool.and_false]

/-- A move of a port with the flush that goes with it. -/
theorem State.moveLine_flushed (s : State) (p : Port) (f : LineUnit → LineUnit) :
    (s.moveLine p f).flushIf s.lines[p].line.runs p = withCause (flushed s p (f s.lines[p])) .port :=
  s.moveLine_flushIf p f _

theorem State.toQuiet_eq (s : State) (p : Port) (loop : Bool) : s.toQuiet p loop = withCause (flushed s p { s.lines[p] with
    line := .quiet, loop := loop, peer := 0, wakeCount := 0, quietCount := 0, peerSeen := false, identifyTimer := none,
    lostTimer := none, statusDue := true,
    rx := { s.lines[p].rx with status := .hunting, markCount := 0, missCount := 0, candidate := none, latest := none } }) .port := by
  unfold State.toQuiet
  dsimp only
  rw [State.moveLine_flushed, LineUnit.enter_clears _ rfl]
  rfl

theorem State.toOff_eq (s : State) (p : Port) : s.toOff p = withCause (flushed s p { s.lines[p] with
    line := .off, loop := false, peer := 0, wakeCount := 0, quietCount := 0, peerSeen := false, identifyTimer := none,
    lostTimer := none, statusDue := true, rx := { s.lines[p].rx with status := .stopped, candidate := none, latest := none } })
    .port := by
  unfold State.toOff
  dsimp only
  rw [State.moveLine_flushed, LineUnit.enter_clears _ rfl]
  rfl

theorem State.toLost_eq (s : State) (p : Port) : s.toLost p = withCause (flushed s p { s.lines[p] with
    line := .lost, peer := 0, wakeCount := 0, quietCount := 0, peerSeen := false, identifyTimer := none,
    lostTimer := some 0, statusDue := true }) .port := by
  unfold State.toLost
  dsimp only
  rw [State.moveLine_flushed, LineUnit.enter_clears _ rfl]

/-- The owner's answer for port `p`. -/
theorem State.portSetup_eq (s : State) {r : WorkRecord} {p : Port} (port : (r.byte 0 0).toNat = p.val) : s.portSetup r =
    if (r.byte 0 1).getLsbD 0 ∧ s.router.node = 0 then (.state, s.lines[p].line.code, s)
    else if (r.byte 0 1).getLsbD 0 then (.done, s.lines[p].line.code, (s.unsee p).toQuiet p ((r.byte 0 1).getLsbD 1))
    else if s.lines[p].line = .off then (.done, s.lines[p].line.code, s)
    else (.done, s.lines[p].line.code, (s.unsee p).toOff p) := by
  have inRange : (r.byte 0 0).toNat < 4 := port ▸ p.isLt
  obtain rfl : p = ⟨(r.byte 0 0).toNat, inRange⟩ := Fin.ext port.symm
  unfold State.portSetup
  rw [dif_pos inRange]

/-- PORT_SETUP moves the port: the command's answer, and what of it the move leaves of every block. -/
theorem exec_portSetup_moves {s : State} {r : WorkRecord} {p : Port} {new : LineUnit} (hf : Found s .portSetup r)
    (answer : (taken s r).portSetup r =
      (.done, s.lines[p].line.code, withCause (flushed ((taken s r).unsee p) p new) .port)) :
    ∃ t, exec .portSetup s = .next t ∧
      (let u := withCause (flushed ((taken s r).unsee p) p new) .port
       t = { u with retire := u.retire ++ [.retire r.held .done s.lines[p].line.code [] true] }) ∧
      t.lines[p] = new ∧ (∀ q : Port, q ≠ p → t.lines[q] = s.lines[q]) ∧
      t.regs.attnPending = s.regs.attnPending ||| Cause.port.bit ∧ t.mem = s.mem ∧ t.switch = (s.unsee p).switch ∧
      t.activity = (s.unsee p).activity ∧ t.streams = (s.unsee p).streams ∧
      t.retire.getLast? = some (.retire r.held .done s.lines[p].line.code [] true) ∧
      (s.lines[p].line.runs = true → t.channels[p].queue = [] ∧ t.channels[p].inFlight = none ∧
        t.channels[p].sender = .idle ∧ t.channels[p].receiver = .idle ∧ t.channels[p].holding = none) := by
  have only : flushed (taken (s.unsee p) r) p new = _ := (taken (s.unsee p) r).flushed_only p new
  have lines : (flushed (taken (s.unsee p) r) p new).lines = (s.unsee p).lines.set p new := by rw [only]; rfl
  have unseen := s.unsee_only p
  rw [State.unsee_taken] at answer ⊢
  refine ⟨_, take_answers hf (by decide) answer, rfl, ?_, fun q hq => ?_, ?_, ?_, ?_, ?_, ?_, ?_, fun runs => ?_⟩
  · show (flushed (taken (s.unsee p) r) p new).lines[p] = new
    rw [lines, Vector.get_set_same]
  · show (flushed (taken (s.unsee p) r) p new).lines[q] = s.lines[q]
    rw [lines, Vector.get_set_other _ _ hq, State.unsee_other _ _ _ hq]
  · show (flushed (taken (s.unsee p) r) p new).regs.attnPending ||| _ = _
    rw [only, unseen]
    rfl
  · show (flushed (taken (s.unsee p) r) p new).mem = _
    rw [only, unseen]
    rfl
  · show (flushed (taken (s.unsee p) r) p new).switch = _
    rw [only]
    rfl
  · show (flushed (taken (s.unsee p) r) p new).activity = _
    rw [only]
    rfl
  · show (flushed (taken (s.unsee p) r) p new).streams = _
    rw [only]
    rfl
  · exact List.getLast?_concat
  · have channel := (taken (s.unsee p) r).flushed_channel p new (by rw [← runs, ← s.unsee_line p p]; rfl)
    show (flushed (taken (s.unsee p) r) p new).channels[p].queue = [] ∧ (flushed (taken (s.unsee p) r) p new).channels[p].inFlight = none ∧
      (flushed (taken (s.unsee p) r) p new).channels[p].sender = .idle ∧
      (flushed (taken (s.unsee p) r) p new).channels[p].receiver = .idle ∧
      (flushed (taken (s.unsee p) r) p new).channels[p].holding = none
    rw [channel]
    exact ⟨rfl, rfl, rfl, rfl, rfl⟩

/-- The line unit that a move of PORT_SETUP starts from. -/
theorem State.unsee_taken_line (s : State) (r : WorkRecord) (p : Port) : ((taken s r).unsee p).lines[p] =
    { s.lines[p] with seen := s.lines[p].seen && (s.lines[p].line != .linked || s.timer.passed) } :=
  (taken s r).unsee_self p

/-! What a port that leaves LINKED takes back (log 15). -/

theorem State.unsee_unseen {s : State} {p : Port}
    (h : s.lines[p].line ≠ .linked ∨ s.lines[p].seen = false ∨ s.timer.passed = true) : s.unsee p = s := by
  refine if_neg fun seen => ?_
  obtain ⟨linked, seen, passed⟩ := seen
  rcases h with h | h | h
  · exact h linked
  · exact Bool.false_ne_true (h.symm.trans seen)
  · exact Bool.false_ne_true (passed.symm.trans h)

theorem State.unsee_seen {s : State} {p : Port} (linked : s.lines[p].line = .linked) (seen : s.lines[p].seen = true)
    (passed : s.timer.passed = false) : s.unsee p = { s with
      lines := s.lines.set p { s.lines[p] with seen := false }
      activity := s.activity.uncount p
      switch := s.switch.unread p
      streams := mapAll (Stream.untap p) s.streams } := if_pos ⟨linked, seen, passed⟩

theorem Switch.unread_read {w : Switch} (p : Port) (h : w.sourcesDue = false) : w.unread p = { w with
    srcSlots := tabulate 120 fun k => if SlotIndex.port k = p then idleOctet else w.srcSlots[k]
    srcScans := tabulate 8 fun g => if w.scansFrom p g then idleOctet else w.srcScans[g] } :=
  if_neg (by rw [h]; exact Bool.false_ne_true)

theorem Stream.untap_placed {t : Stream} {p : Port} {d : StreamDesc} {k : SlotIndex} {older : List Octet} {o : Octet}
    (open_ : t.desc = some d) (tap : d.dir = .tap k) (port : SlotIndex.port k = p) (worked : t.frameDue = false)
    (runs : d.status = .opened) (buffer : d.buffer = older ++ [o]) :
    t.untap p = { t with desc := some { d with buffer := older ++ [0xFF] } } := by
  unfold Stream.untap
  rw [open_]
  dsimp only
  rw [tap]
  dsimp only
  rw [if_pos ⟨port, worked, runs, by simp [buffer]⟩, buffer, List.dropLast_concat]

theorem Stream.untap_other {t : Stream} {p : Port} (h : ∀ (d : StreamDesc) (k : SlotIndex), t.desc = some d → d.dir = .tap k →
    SlotIndex.port k = p → t.frameDue = true ∨ d.status ≠ .opened ∨ d.buffer = []) : t.untap p = t := by
  unfold Stream.untap
  split
  · rfl
  · next d open_ =>
    split
    · rfl
    · next k tap =>
      refine if_neg fun placed => ?_
      obtain ⟨port, worked, runs, some_⟩ := placed
      rcases h d k open_ tap port with due | stopped | empty
      · exact Bool.false_ne_true (worked.symm.trans due)
      · exact stopped runs
      · exact some_ empty

/-- Settles O22: the checks in their order, the two moves, and what a port that leaves LINKED takes back. -/
theorem portSetupTaken : Obligations.PortSetupTaken := by
  refine ⟨fun s r hf => ⟨fun far => ?_, fun p port => ?_⟩, fun s p => ⟨State.unsee_unseen, fun linked seen passed => ?_⟩⟩
  · exact take_refuses hf (by decide) (dif_neg (Nat.not_lt.2 far))
  · have answer := (taken s r).portSetup_eq port
    refine ⟨fun enable unset => ?_, fun disable off => ?_, fun enable set => exec_portSetup_moves hf ?_,
      fun disable on => exec_portSetup_moves hf ?_⟩
    · exact take_refuses hf (by decide) (answer.trans (if_pos ⟨enable, unset⟩))
    · rw [disable, if_neg (by simp), if_neg (by simp)] at answer
      exact take_refuses hf (by decide) (answer.trans (if_pos off))
    · rw [enable, if_neg fun both => set both.2, if_pos rfl, State.toQuiet_eq, State.unsee_taken_line] at answer
      exact answer
    · rw [disable, if_neg (by simp), if_neg (by simp), if_neg (by exact on), State.toOff_eq, State.unsee_taken_line] at answer
      exact answer
  · have unseen := State.unsee_seen linked seen passed
    have switch_ : (s.unsee p).switch = s.switch.unread p := by rw [unseen]
    have streams (n : StreamNo) : (s.unsee p).streams[n] = s.streams[n].untap p := by rw [unseen, mapAll_get]
    refine ⟨?_, fun k => ?_, fun due => ?_, fun read => ?_,
      fun n => ⟨fun d k older o open_ tap port worked runs buffer => ?_, fun unplaced => ?_⟩⟩
    · rw [switch_, unseen, s.switch.unread_only p]
      rfl
    · rw [unseen]
      exact tabulate_get _ _ _
    · rw [switch_]
      exact if_pos due
    · rw [switch_, Switch.unread_read p read]
      refine ⟨fun k => tabulate_get _ _ _, fun g => ⟨fun k from_ => ?_, fun from_ => ?_⟩⟩
      · rw [tabulate_get, Switch.scansFrom, from_]
        simp only [beq_iff_eq]
      · rw [tabulate_get, Switch.scansFrom, from_]
        rfl
    · rw [streams]
      exact Stream.untap_placed open_ tap port worked runs buffer
    · rw [streams]
      exact Stream.untap_other unplaced

end Sys2Proof.Machine
end

section
/-! PROOFS. SET_NODE, the changes kept by EDIT_MAP and DROP_TAG, QUERY_MAP with its image words, and SET_ACTIVITY. -/

namespace Sys2Proof.Machine

/-! ### SET_NODE (08 R145, R146) -/

/-- A direction entry byte that R145 passes. -/
def goodDirection (b : Octet) : Prop := b.toNat < 4 ∨ b = 0xFF

theorem parseDirection_port {b : Octet} {p : Port} (h : b.toNat = p.val) : parseDirection b = .ok (some p) := by
  have inRange : b.toNat < 4 := h ▸ p.isLt
  have same : (⟨b.toNat, inRange⟩ : Port) = p := Fin.ext h
  rw [← same]
  exact dif_pos inRange

theorem parseDirection_none : parseDirection 0xFF = .ok none := rfl

theorem parseDirection_good {b : Octet} (h : goodDirection b) : ∃ e, parseDirection b = .ok e := by
  rcases h with port | rfl
  · exact ⟨_, dif_pos port⟩
  · exact ⟨none, rfl⟩

theorem parseDirection_bad {b : Octet} (h : ¬ goodDirection b) : parseDirection b = .error () := by
  unfold parseDirection
  rw [dif_neg fun port => h (.inl port), if_neg fun none_ => h (.inr none_)]

/-- The first bad entry is answered with its position plus 1. -/
theorem parseDirections_bad (r : WorkRecord) {k i j : Nat} (le : i ≤ j) (lt : j < i + k)
    (bad : ¬ goodDirection (r.directionByte j)) (good : ∀ m, i ≤ m → m < j → goodDirection (r.directionByte m)) :
    parseDirections r k i = .error (octet (j + 1)) := by
  induction k generalizing i with
  | zero => omega
  | succ k ih =>
    unfold parseDirections
    by_cases first : i = j
    · rw [first, parseDirection_bad bad]
    · obtain ⟨e, ok⟩ := parseDirection_good (good i le_rfl (by omega))
      rw [ok, ih (i := i + 1) (by omega) (by omega) fun m above below => good m (by omega) below]

/-- Good entries are answered in order. -/
theorem parseDirections_good (r : WorkRecord) {k i : Nat} (good : ∀ m, i ≤ m → m < i + k → goodDirection (r.directionByte m)) :
    ∃ es, parseDirections r k i = .ok es ∧ ∀ m, m < k → parseDirection (r.directionByte (i + m)) = .ok (es.getD m none) := by
  induction k generalizing i with
  | zero => exact ⟨[], rfl, fun m h => absurd h (Nat.not_lt_zero m)⟩
  | succ k ih =>
    obtain ⟨e, ok⟩ := parseDirection_good (good i le_rfl (by omega))
    obtain ⟨es, rest, each⟩ := ih (i := i + 1) fun m above below => good m (by omega) (by omega)
    refine ⟨e :: es, ?_, fun m hm => ?_⟩
    · unfold parseDirections
      rw [ok, rest]
    · cases m with
      | zero => exact ok
      | succ m =>
        rw [show i + (m + 1) = i + 1 + m by omega]
        exact each m (by omega)

theorem mem_allPorts (p : Port) : p ∈ allPorts := by fin_cases p <;> decide

theorem anyPort_iff (f : Port → Bool) : allPorts.any f = true ↔ ∃ p, f p = true := by
  rw [List.any_eq_true]
  exact ⟨fun ⟨p, _, h⟩ => ⟨p, h⟩, fun ⟨p, h⟩ => ⟨p, mem_allPorts p, h⟩⟩

theorem exec_setNode (s : State) : exec .setNode s =
    whileReleased s fun s => s.takeWith (ofKind .setNode) (ending State.setNode) := rfl

/-- Settles O23: the checks in their order; the entries are judged from position 0 on. -/
theorem setNodeTaken : Obligations.SetNodeTaken := by
  intro s r hf
  dsimp only
  rw [exec_setNode]
  have numbered (h1 : r.byte 0 0 ≠ 0) (h2 : r.byte 0 0 ≠ 255) : ¬ (r.byte 0 0 = 0 ∨ r.byte 0 0 = 255) :=
    fun h => h.elim h1 h2
  have goods (h : ∀ i : Fin 8, goodDirection (r.byte (1 + i.val / 4) (i.val % 4))) :=
    parseDirections_good r (k := 8) (i := 0) fun m _ below => h ⟨m, by omega⟩
  refine ⟨fun bad => ?_, fun i h1 h2 bad before => ?_, fun h1 h2 good other linked => ?_, fun h1 h2 good free => ?_⟩
  · exact take_refuses hf (by decide) (if_pos bad)
  · refine take_refuses hf (by decide) ?_
    have first := parseDirections_bad r (k := 8) (i := 0) (j := i.val) (Nat.zero_le _) (by omega) bad
      fun m _ below => before ⟨m, by omega⟩ below
    unfold State.setNode
    dsimp only
    rw [if_neg (numbered h1 h2), first]
    rfl
  · obtain ⟨es, parsed, -⟩ := goods good
    obtain ⟨p, linked⟩ := linked
    refine take_refuses hf (by decide) ?_
    unfold State.setNode
    dsimp only
    rw [if_neg (numbered h1 h2), parsed]
    exact if_pos ⟨other, (anyPort_iff _).2 ⟨p, beq_iff_eq.2 linked⟩⟩
  · obtain ⟨es, parsed, each⟩ := goods good
    have may : ¬ (r.byte 0 0 ≠ s.router.node ∧ allPorts.any (fun p => s.lines[p].line == .linked) = true) := by
      rintro ⟨other, any⟩
      obtain ⟨p, linked⟩ := (anyPort_iff _).1 any
      rcases free with same | none_
      · exact other same
      · exact none_ p (by simpa using linked)
    have answer : (taken s r).setNode r = (.done, s.router.node,
        (taken s r).onRouter fun t => { t with node := r.byte 0 0, table := tabulate 8 fun i => es.getD i.val none }) := by
      unfold State.setNode
      dsimp only
      rw [if_neg (numbered h1 h2), parsed]
      exact if_neg may
    refine ⟨tabulate 8 fun i => es.getD i.val none, take_answers hf (by decide) answer, fun i => ⟨fun p port => ?_, fun none_ => ?_⟩⟩
    · have entry := each i.val i.isLt
      rw [Nat.zero_add, WorkRecord.directionByte, parseDirection_port port] at entry
      rw [tabulate_get]
      exact (Except.ok.inj entry).symm
    · have entry := each i.val i.isLt
      rw [Nat.zero_add, WorkRecord.directionByte, none_, parseDirection_none] at entry
      rw [tabulate_get]
      exact (Except.ok.inj entry).symm

/-! ### EDIT_MAP and DROP_TAG (03 R55, R61) -/

/-- An owner that takes what it keeps into an empty collection, and asks no outbound queue. -/
theorem State.ownerFull_of {s : State} {r : WorkRecord} (list : s.collectionFull r = false) (queue : s.outboundFull r = false) :
    s.ownerFull r = false := by
  rw [State.ownerFull, list, queue, Bool.or_false]

theorem State.outboundFull_none {s : State} {r : WorkRecord} {k : Kind} (kind : kindOf r.kind = some k) (send : k ≠ .send)
    (probe : k ≠ .probe) : s.outboundFull r = false := by
  unfold State.outboundFull
  rw [kind]
  cases k <;> simp_all

section
variable {s : State} {r : WorkRecord}

theorem ownerFull_editMap (hf : Found s .editMap r) (h : editMapFault r ≠ none ∨ s.switch.slot = none) :
    s.ownerFull r = false := by
  refine State.ownerFull_of ?_ (State.outboundFull_none hf.2.2 (by decide) (by decide))
  unfold State.collectionFull
  rw [hf.2.2]
  rcases h with fault | empty
  · simp [fault]
  · simp [empty]

theorem exec_editMap (hf : Found s .editMap r) (h : editMapFault r ≠ none ∨ s.switch.slot = none) :
    exec .editMap s = .next ((taken s r).takeEditMap r) :=
  take_next s .editMap r _ _ hf (ofKind_of _ r hf.2.2) (ownerFull_editMap hf h)

theorem exec_editMap_refused (hf : Found s .editMap r) {o : OutcomeCode} (fault : editMapFault r = some o) :
    exec .editMap s = .next (ended s r o 0) := by
  rw [exec_editMap hf (.inl (by rw [fault]; exact Option.some_ne_none o)), State.takeEditMap, fault]
  rfl

theorem ownerFull_dropTag (hf : Found s .dropTag r) (h : r.byte 0 0 = 0 ∨ s.switch.slot = none) : s.ownerFull r = false := by
  refine State.ownerFull_of ?_ (State.outboundFull_none hf.2.2 (by decide) (by decide))
  unfold State.collectionFull
  rw [hf.2.2]
  rcases h with zero | empty
  · simp [zero]
  · simp [empty]

theorem exec_dropTag (hf : Found s .dropTag r) (h : r.byte 0 0 = 0 ∨ s.switch.slot = none) :
    exec .dropTag s = .next ((taken s r).takeDropTag r) :=
  take_next s .dropTag r _ _ hf (ofKind_of _ r hf.2.2) (ownerFull_dropTag hf h)

end

/-- Settles O24. -/
theorem changesKept : Obligations.ChangesKept := by
  refine ⟨fun s r hf => ⟨fun bad => ?_, fun one most short => ?_, fun one most enough empty => ?_⟩,
    fun s r hf => ⟨fun zero => ?_, fun tag empty => ?_⟩⟩
  · exact exec_editMap_refused hf (if_pos bad)
  · exact exec_editMap_refused hf ((if_neg (by omega)).trans (if_pos short))
  · rw [exec_editMap hf (.inr empty), State.takeEditMap, editMapFault_none.2 ⟨one, most, enough⟩]
    rfl
  · rw [exec_dropTag hf (.inl zero), State.takeDropTag, if_pos zero]
    rfl
  · rw [exec_dropTag hf (.inr empty), State.takeDropTag, if_neg tag]
    rfl

/-! ### QUERY_MAP (03 R63 to R65) -/

/-- The offsets that name `size` bytes above the header. -/
theorem areaOffset?_some {w : Word} {size : Nat} (h : ¬ (w.toNat % 4 ≠ 0 ∨ w.toNat < 0x40 ∨ 0x100000 < w.toNat + size)) :
    areaOffset? w size = some (w.setWidth 20) := if_pos (by omega)

theorem areaOffset?_none {w : Word} {size : Nat} (h : w.toNat % 4 ≠ 0 ∨ w.toNat < 0x40 ∨ 0x100000 < w.toNat + size) :
    areaOffset? w size = none := if_neg (by omega)

/-- An image word as the sum of its fields. -/
theorem wordOf_toNat (b0 b1 b2 b3 : Octet) : (wordOf b0 b1 b2 b3).toNat =
    b0.toNat + 0x100 * b1.toNat + 0x10000 * b2.toNat + 0x1000000 * b3.toNat := by
  have append {m n : Nat} (x : BitVec m) (y : BitVec n) : (x ++ y).toNat = x.toNat * 2 ^ n + y.toNat := by
    rw [BitVec.toNat_append, ← Nat.shiftLeft_add_eq_or_of_lt y.isLt, Nat.shiftLeft_eq]
  unfold wordOf
  rw [append, append, append]
  omega

theorem imageFlags (kind : Fin 5) (urgent marked : Bool) :
    ((octet kind.val) ||| (flagBit urgent 6 ||| flagBit marked 7)).toNat =
      kind.val + (if urgent then 0x40 else 0) + (if marked then 0x80 else 0) := by
  revert kind urgent marked
  decide

/-- The image word of an entry, from its source's kind and two fields. -/
theorem RouteEntry.imageWord_fields (e : RouteEntry) (kind : Fin 5) (a b : Octet)
    (h : e.imageWord = wordOf (octet kind.val ||| (flagBit (e.cls == .urgent) 6 ||| flagBit e.marked 7)) a b e.tag) :
    e.imageWord = BitVec.ofNat 32 (kind.val + (if e.cls = .urgent then 0x40 else 0) + (if e.marked then 0x80 else 0) +
      0x100 * a.toNat + 0x10000 * b.toNat + 0x1000000 * e.tag.toNat) := by
  have flags := imageFlags kind (e.cls == .urgent) e.marked
  simp only [beq_iff_eq] at flags
  rw [h, ← flags, ← wordOf_toNat, BitVec.ofNat_toNat]
  exact (BitVec.setWidth_eq _).symm

theorem octet_toNat {n : Nat} (h : n < 256) : (octet n).toNat = n := by
  rw [octet, BitVec.toNat_ofNat, Nat.mod_eq_of_lt h]

theorem countP_finRange_toList {α : Type} {n : Nat} (v : Vector α n) (p : α → Bool) :
    v.toList.countP p = (List.finRange n).countP fun k => p v[k] := by
  rw [toList_eq_map_finRange, List.countP_map]
  rfl

theorem Switch.imageWrites_length (w : Switch) (off : Offset) : (w.imageWrites off).length = 120 := by
  simp [Switch.imageWrites]

section
variable {s u : State} {r : WorkRecord} {off : Offset} (area : areaOffset? (r.word 0) 480 = some off)
include area

/-- The whole image is written. -/
theorem State.queryMap_image
    (written : s.writes (s.switch.imageWrites off) = ((s.switch.imageWrites off).length, u)) :
    s.queryMap r = (.done, octet s.switch.routed, u) := by
  unfold State.queryMap
  rw [area]
  dsimp only
  rw [written, Switch.imageWrites_length]
  rfl

/-- A bus error ends the image. -/
theorem State.queryMap_error {k : Nat} (written : s.writes (s.switch.imageWrites off) = (k, u)) (hk : k < 120) :
    s.queryMap r = (.busError, octet k, u.raise .bus) := by
  unfold State.queryMap
  rw [area]
  dsimp only
  rw [written]
  exact if_pos hk

end

/-- The end of a take whose owner stored a list of writes. -/
theorem image_ended (s : State) (r : WorkRecord) (bus : Bus) (writes : List Write) (o : OutcomeCode) (d : Octet) :
    (({ taken (s.setBus bus) r with
        mem := writes.foldl (stored (taken (s.setBus bus) r)) s.mem } : State).endTake r.held o d).setBus {} =
      { ended s r o d with bus := {}, mem := writes.foldl (stored s) s.mem } := rfl

/-- The end of a take whose owner met a bus error after a list of writes. -/
theorem image_error_ended (s : State) (r : WorkRecord) (bus : Bus) (writes : List Write) (d : Octet) :
    (((({ taken (s.setBus bus) r with
        mem := writes.foldl (stored (taken (s.setBus bus) r)) s.mem, bus := {} } : State).raise .bus).endTake
          r.held .busError d).setBus {}) =
      { withCause (ended s r .busError d) .bus with bus := {}, mem := writes.foldl (stored s) s.mem } := rfl

theorem exec_queryMap (s : State) (bus : List BusCycle) : exec (.queryMap bus) s =
    whileReleasedBus s bus fun s => s.takeWith (ofKind .queryMap) (ending State.queryMap) := rfl

/-- Settles O25. -/
theorem queryMapTaken : Obligations.QueryMapTaken := by
  refine ⟨fun s r hf => ?_, fun w => ?_, fun e => ?_⟩
  · dsimp only
    refine ⟨fun bus bad => ?_, fun good => ?_, fun k good hk => ?_⟩
    · refine take_refusesBus hf (by decide) ?_
      rw [State.queryMap, areaOffset?_none bad]
    all_goals have area := areaOffset?_some good
    · have written := State.writes_quiet (taken (s.setBus {}) r)
        ((taken (s.setBus {}) r).switch.imageWrites ((r.word 0).setWidth 20)) rfl
      rw [exec_queryMap, take_answersBus hf (by decide) (State.queryMap_image area written)]
      exact congrArg Host.Outcome.next (image_ended s r {} _ _ _)
    · have written := State.writes_error
        ((taken (s.setBus { cycles := errorAfter k }) r).switch.imageWrites ((r.word 0).setWidth 20)) k
        (taken (s.setBus { cycles := errorAfter k }) r) (by rw [Switch.imageWrites_length]; exact hk) [] (List.append_nil _).symm
      rw [exec_queryMap, take_answersBus hf (by decide) (State.queryMap_error area written hk)]
      exact congrArg Host.Outcome.next (image_error_ended s r { cycles := errorAfter k } _ _)
  · rw [Switch.routed, ← List.countP_eq_length_filter, countP_finRange_toList]
  · refine ⟨fun source => ?_, fun k source => ?_, fun n source => ?_, fun g source => ?_, fun v source => ?_⟩
    · refine (e.imageWord_fields 0 0 0 ?_).trans rfl
      rw [RouteEntry.imageWord, source]
      exact congrArg (wordOf · 0 0 e.tag) (BitVec.zero_or).symm
    · have port := octet_toNat (show (SlotIndex.port k).val < 256 by omega)
      have slot := octet_toNat (show (SlotIndex.slot k).val < 256 by omega)
      rw [← port, ← slot]
      exact e.imageWord_fields 1 _ _ (by rw [RouteEntry.imageWord, source]; rfl)
    · rw [← octet_toNat (show n.val < 256 by omega)]
      exact e.imageWord_fields 2 _ 0 (by rw [RouteEntry.imageWord, source]; rfl)
    · rw [← octet_toNat (show g.val < 256 by omega)]
      exact e.imageWord_fields 3 _ 0 (by rw [RouteEntry.imageWord, source]; rfl)
    · exact e.imageWord_fields 4 _ 0 (by rw [RouteEntry.imageWord, source]; rfl)

/-! ### SET_ACTIVITY (04 R86, R87) -/

/-- Word `i` of four holds bits `32 i` on. -/
theorem WorkRecord.watchSet_bit (r : WorkRecord) (k : SlotIndex) :
    r.watchSet.getLsbD k.val = (r.word (1 + k.val / 32)).getLsbD (k.val % 32) := by
  have hk := k.isLt
  have word : k.val / 32 = 0 ∨ k.val / 32 = 1 ∨ k.val / 32 = 2 ∨ k.val / 32 = 3 := by omega
  unfold WorkRecord.watchSet
  rw [BitVec.getLsbD_setWidth, BitVec.getLsbD_append, BitVec.getLsbD_append, BitVec.getLsbD_append]
  have inside : decide (k.val < 120) = true := decide_eq_true hk
  rw [inside, Bool.true_and]
  rcases word with h | h | h | h
  · have bit : k.val % 32 = k.val := by omega
    rw [h, bit, if_pos (by omega)]
  · have bit : k.val % 32 = k.val - 32 := by omega
    rw [h, bit, if_neg (by omega), if_pos (by omega)]
  · have bit : k.val % 32 = k.val - 32 - 32 := by omega
    rw [h, bit, if_neg (by omega), if_neg (by omega), if_pos (by omega)]
  · have bit : k.val % 32 = k.val - 32 - 32 - 32 := by omega
    rw [h, bit, if_neg (by omega), if_neg (by omega), if_neg (by omega)]

theorem exec_setActivity (s : State) : exec .setActivity s =
    whileReleased s fun s => s.takeWith (ofKind .setActivity) (ending State.setActivity) := rfl

/-- Settles O26. -/
theorem setActivityTaken : Obligations.SetActivityTaken := by
  refine ⟨fun a => ?_, fun s r hf => ⟨fun bad => ?_, fun low high bad => ?_, fun low high first last => ⟨r.watchSet, ?_, r.watchSet_bit⟩⟩⟩
  · rw [Activity.activeCount, ← List.countP_eq_length_filter, countP_finRange_toList]
  · exact take_refuses hf (by decide) (if_pos bad)
  · exact take_refuses hf (by decide) ((if_neg (by omega)).trans (if_pos bad))
  · have threshold : ¬ ((r.byte 0 0).toNat < 2 ∨ 127 < (r.byte 0 0).toNat) := by omega
    have onset : ¬ ((r.byte 0 1).toNat < 1 ∨ 64 < (r.byte 0 1).toNat) := by omega
    exact (take_answers hf (by decide) ((if_neg threshold).trans (if_neg onset))).trans rfl

end Sys2Proof.Machine
end

section
/-! PROOFS. The takes of the scan unit: SET_SCAN with its checks and references, and the four actions of SCAN_CONTROL. -/

namespace Sys2Proof.Machine

/-! ### The operands (05 5.3) -/

theorem slotIndex?_of {a b : Nat} {k : SlotIndex} (port : a = (SlotIndex.port k).val) (slot : b = (SlotIndex.slot k).val) :
    slotIndex? a b = some k := by
  rw [port, slot, slotIndex?_port_slot]

theorem slotIndex?_none {a b : Nat} (h : 3 < a ∨ b < 2 ∨ 31 < b) : slotIndex? a b = none := dif_neg (by omega)

section
variable {w : Word}

theorem parseMember_slot (kind : (wordByte w 0).toNat = 1) : parseMember w =
    match slotIndex? (wordByte w 1).toNat (wordByte w 2).toNat with
    | none => .error .badSlot
    | some k => .ok { source := .slot k, dwell := (wordByte w 3).toNat } := by
  unfold parseMember
  rw [kind]
  rfl

theorem parseMember_stream (kind : (wordByte w 0).toNat = 2) : parseMember w =
    if h : (wordByte w 1).toNat < 16 then .ok { source := .stream ⟨(wordByte w 1).toNat, h⟩, dwell := (wordByte w 3).toNat }
    else .error .badField := by
  unfold parseMember
  rw [kind]
  rfl

theorem parseMember_other (h1 : (wordByte w 0).toNat ≠ 1) (h2 : (wordByte w 0).toNat ≠ 2) :
    parseMember w = .error .badField := by
  unfold parseMember
  dsimp only
  split
  · next kind => exact absurd kind h1
  · next kind => exact absurd kind h2
  · rfl

end

/-! ### Eligibility and the search (05 R91, R92) -/

theorem ScanGroup.eligibleAt_iff (a : Activity) (g : ScanGroup) (i : Nat) : g.eligibleAt a i = true ↔
    ∃ m, g.members[i]? = some m ∧ 0 < m.dwell ∧
      (g.skipSilent = false ∨ (∃ n, m.source = .stream n) ∨ ∃ k, m.source = .slot k ∧ a.slots[k].active = true) := by
  unfold ScanGroup.eligibleAt
  cases g.members[i]? with
  | none => simp
  | some m => cases h : m.source <;> simp [Activity.eligible, h]

/-- No member is eligible if none of an order that names every index is. -/
theorem ScanGroup.none_eligible {a : Activity} {g : ScanGroup} {order : List Nat} (whole : ∀ j < g.members.length, j ∈ order)
    (h : ∀ j ∈ order, g.eligibleAt a j = false) (j : Nat) : g.eligibleAt a j = false := by
  by_contra eligible
  rw [Bool.not_eq_false] at eligible
  exact absurd (h j (whole j (ScanGroup.eligibleAt_lt eligible))) (by simp [eligible])

theorem ScanGroup.mem_fromStart (g : ScanGroup) (j : Nat) (h : j < g.members.length) : j ∈ g.fromStart := List.mem_range.2 h

/-- The onward order names every index. -/
theorem ScanGroup.mem_onward (g : ScanGroup) (cur j : Nat) (h : j < g.members.length) : j ∈ g.onward cur := by
  have below : (cur + 1) % g.members.length < g.members.length := Nat.mod_lt _ (by omega)
  refine List.mem_map.2 ⟨(j + g.members.length - (cur + 1) % g.members.length) % g.members.length,
    List.mem_range.2 (Nat.mod_lt _ (by omega)), ?_⟩
  rw [Nat.add_mod_mod, ← Nat.mod_add_mod, Nat.add_sub_cancel' (by omega), Nat.add_mod_right, Nat.mod_eq_of_lt h]

/-- A search changes the current member and its dwell. -/
theorem ScanGroup.searchIn_only (a : Activity) (g : ScanGroup) (order : List Nat) : g.searchIn a order =
    { g with current := (g.searchIn a order).current, dwell := (g.searchIn a order).dwell } := by
  unfold ScanGroup.searchIn
  split <;> rfl

section
variable {a : Activity} {g : ScanGroup} {order : List Nat}

/-- The member found is the first eligible one of the order. -/
theorem ScanGroup.searchIn_some {i : Nat} (h : (g.searchIn a order).current = some i) :
    g.eligibleAt a i = true ∧ (g.searchIn a order).dwell = g.dwellAt i ∧
    ∃ m, ∃ hm : m < order.length, order[m] = i ∧ ∀ j (hj : j < m), g.eligibleAt a order[j] = false := by
  unfold ScanGroup.searchIn at h ⊢
  cases found : order.find? fun i => g.eligibleAt a i with
  | none => rw [found] at h; cases h
  | some j =>
    rw [found] at h
    cases h
    obtain ⟨eligible, m, hm, at_m, before⟩ := List.find?_eq_some_iff_getElem.1 found
    exact ⟨eligible, rfl, m, hm, at_m, fun j hj => by simpa using before j hj⟩

/-- Without a member found none of the order is eligible. -/
theorem ScanGroup.searchIn_empty (h : (g.searchIn a order).current = none) :
    (g.searchIn a order).dwell = 0 ∧ ∀ j ∈ order, g.eligibleAt a j = false := by
  unfold ScanGroup.searchIn at h ⊢
  cases found : order.find? fun i => g.eligibleAt a i with
  | none => exact ⟨rfl, fun j hj => by simpa using List.find?_eq_none.1 found j hj⟩
  | some j => rw [found] at h; cases h

theorem ScanGroup.search_only (a : Activity) (g : ScanGroup) : g.search a =
    { g with current := (g.search a).current, dwell := (g.search a).dwell } := by
  unfold ScanGroup.search
  split <;> exact g.searchIn_only a _

theorem ScanGroup.search_some {i : Nat} (h : (g.search a).current = some i) :
    g.eligibleAt a i = true ∧ (g.search a).dwell = g.dwellAt i := by
  unfold ScanGroup.search at h ⊢
  split at h <;> exact (ScanGroup.searchIn_some h).imp_right And.left

theorem ScanGroup.search_nothing (h : (g.search a).current = none) :
    (g.search a).dwell = 0 ∧ ∀ j, g.eligibleAt a j = false := by
  unfold ScanGroup.search at h ⊢
  split at h
  · next c _ =>
    exact (ScanGroup.searchIn_empty h).imp_right (ScanGroup.none_eligible (g.mem_onward c))
  · exact (ScanGroup.searchIn_empty h).imp_right (ScanGroup.none_eligible g.mem_fromStart)

/-- A search from index 0 passes over every lower member. -/
theorem ScanGroup.fromStart_first {i : Nat} (h : (g.searchIn a g.fromStart).current = some i) (j : Nat) (hj : j < i) :
    g.eligibleAt a j = false := by
  obtain ⟨-, -, m, hm, at_m, before⟩ := ScanGroup.searchIn_some h
  have at_m : m = i := by simpa [ScanGroup.fromStart] using at_m
  have passed := before j (by omega)
  simpa [ScanGroup.fromStart] using passed

/-- An onward search passes over every member before the one found. -/
theorem ScanGroup.onward_first {c d i : Nat} (h : (g.searchIn a (g.onward c)).current = some i)
    (first : ∀ e, e < d → (c + 1 + e) % g.members.length ≠ i) (e : Nat) (he : e < d) :
    g.eligibleAt a ((c + 1 + e) % g.members.length) = false := by
  obtain ⟨-, -, m, hm, at_m, before⟩ := ScanGroup.searchIn_some h
  have at_m : (c + 1 + m) % g.members.length = i := by simpa [ScanGroup.onward] using at_m
  have passed := before e (by by_contra later; exact first m (by omega) at_m)
  simpa [ScanGroup.onward] using passed

end

/-! ### A reading ahead of the step, at a take (05 R98; log 47) -/

theorem State.readBeforeTake_taken (s : State) (r : WorkRecord) (g : GroupNo) :
    (taken s r).readBeforeTake g = { taken s r with switch := (s.readBeforeTake g).switch } := by
  rw [(taken s r).readBeforeTake_only g]
  unfold State.readBeforeTake
  cases h : s.switch.scanAhead[g] with
  | false => simp [taken, h]
  | true => simp [taken, h]; rfl

/-! ### SET_SCAN (05 R96, R97) -/

/-- A member passes its checks. -/
def State.passes (s : State) (w : Word) : Prop := ∃ m, parseMember w = .ok m ∧ ∀ n, m.source = .stream n → s.isOpenFeed n = true

theorem State.memberStreamOk_iff (s : State) (m : Member) : s.memberStreamOk m = true ↔
    ∀ n, m.source = .stream n → s.isOpenFeed n = true := by
  cases h : m.source <;> simp [State.memberStreamOk, h, MemberSource.stream?]

/-- Members that pass leave the first failure to the ones after them. -/
theorem State.checkMembers_append {s : State} {ws : List Word} (rest : List Word) {k : Nat} {e : OutcomeCode × Octet}
    (pass : ∀ w ∈ ws, s.passes w) (fails : s.checkMembers (k + ws.length) rest = .error e) :
    s.checkMembers k (ws ++ rest) = .error e := by
  induction ws generalizing k with
  | nil => exact fails
  | cons w ws ih =>
    obtain ⟨⟨m, parsed, open_⟩, later⟩ := List.forall_mem_cons.1 pass
    have fails := ih (k := k + 1) later (by rw [← fails, List.length_cons]; congr 1; omega)
    rw [List.cons_append, State.checkMembers, parsed]
    dsimp only
    rw [if_pos ((s.memberStreamOk_iff m).2 open_), fails]

theorem State.checkMembers_bad (s : State) {w : Word} {o : OutcomeCode} (h : parseMember w = .error o) (k : Nat) (rest : List Word) :
    s.checkMembers k (w :: rest) = .error (o, octet k) := by
  rw [State.checkMembers, h]

theorem State.checkMembers_noStream {s : State} {w : Word} {m : Member} {n : StreamNo} (h : parseMember w = .ok m)
    (names : m.source = .stream n) (closed : s.isOpenFeed n = false) (k : Nat) (rest : List Word) :
    s.checkMembers k (w :: rest) = .error (.noStream, octet k) := by
  have bad : ¬ s.memberStreamOk m = true := fun ok => by
    rw [(s.memberStreamOk_iff m).1 ok n names] at closed
    cases closed
  rw [State.checkMembers, h]
  exact if_neg bad

/-- The first failing member of a list, by its place. -/
theorem State.checkMembers_first {s : State} {f : Nat → Word} {count i : Nat} {e : OutcomeCode × Octet} (hi : i < count)
    (pass : ∀ j, j < i → s.passes (f j)) (fails : ∀ rest, s.checkMembers (1 + i) (f i :: rest) = .error e) :
    s.checkMembers 1 ((List.range count).map f) = .error e := by
  have cut : (List.range count).map f = (List.range i).map f ++ f i :: (List.range (count - i - 1)).map fun k => f (i + (1 + k)) := by
    rw [show count = i + (1 + (count - i - 1)) by omega, List.range_add, List.range_add]
    simp [Function.comp_def]
  rw [cut]
  refine State.checkMembers_append _ (fun w hw => ?_) (by rw [List.length_map, List.length_range]; exact fails _)
  obtain ⟨j, hj, rfl⟩ := List.mem_map.1 hw
  exact pass j (List.mem_range.1 hj)

theorem State.checkMembers_good {s : State} {ws : List Word} {ms : List Member} (k : Nat) (length : ms.length = ws.length)
    (good : ∀ i (hi : i < ms.length), parseMember (ws[i]'(length ▸ hi)) = .ok ms[i] ∧
      ∀ n, ms[i].source = .stream n → s.isOpenFeed n = true) : s.checkMembers k ws = .ok ms := by
  induction ws generalizing k ms with
  | nil => rw [List.eq_nil_of_length_eq_zero length]; rfl
  | cons w ws ih =>
    cases ms with
    | nil => cases length
    | cons m ms =>
      obtain ⟨parsed, open_⟩ := good 0 (Nat.zero_lt_succ _)
      have rest := ih (ms := ms) (k + 1) (Nat.succ.inj length) fun i hi => good (i + 1) (Nat.succ_lt_succ hi)
      rw [State.checkMembers, show parseMember w = .ok m from parsed]
      dsimp only
      rw [if_pos ((s.memberStreamOk_iff m).2 open_), rest]

section
variable {s : State} {r : WorkRecord}

theorem State.setScan_error {o : OutcomeCode} {d : Octet} (h : s.checkSetScan r = .error (o, d)) :
    s.setScan r = (o, d, s) := by
  unfold State.setScan
  rw [h]

theorem State.checkSetScan_group (h : 8 ≤ (r.byte 0 0).toNat) : s.checkSetScan r = .error (.badField, 0) :=
  dif_neg (by omega)

theorem State.checkSetScan_count (h : (r.byte 0 0).toNat < 8) (bad : 8 < (r.byte 0 1).toNat) :
    s.checkSetScan r = .error (.badField, 0) := (dif_pos h).trans (if_pos bad)

theorem State.checkSetScan_length (h : (r.byte 0 0).toNat < 8) (count : (r.byte 0 1).toNat ≤ 8)
    (bad : r.body.length < 1 + (r.byte 0 1).toNat) : s.checkSetScan r = .error (.badLength, 0) :=
  (dif_pos h).trans ((if_neg (by omega)).trans (if_pos bad))

theorem State.checkSetScan_members (h : (r.byte 0 0).toNat < 8) (count : (r.byte 0 1).toNat ≤ 8)
    (length : 1 + (r.byte 0 1).toNat ≤ r.body.length) : s.checkSetScan r =
      match s.checkMembers 1 ((List.range (r.byte 0 1).toNat).map fun k => r.word (1 + k)) with
      | .error e => .error e
      | .ok ms => .ok (⟨(r.byte 0 0).toNat, h⟩, ms) :=
  (dif_pos h).trans ((if_neg (by omega)).trans (if_neg (by omega)))

end

theorem exec_setScan (s : State) : exec .setScan s =
    whileReleased s fun s => s.takeWith (ofKind .setScan) (ending State.setScan) := rfl

/-- The group that a SET_SCAN places (05 R97). -/
def placedGroup (a : Activity) (r : WorkRecord) (ms : List Member) : ScanGroup :=
  let fresh : ScanGroup := { members := ms, skipSilent := (r.byte 0 2).getLsbD 0, hold := (r.byte 0 2).getLsbD 1 }
  fresh.searchIn a fresh.fromStart

theorem placedGroup_only (a : Activity) (r : WorkRecord) (ms : List Member) : placedGroup a r ms = {
    members := ms, skipSilent := (r.byte 0 2).getLsbD 0, hold := (r.byte 0 2).getLsbD 1
    current := (placedGroup a r ms).current, dwell := (placedGroup a r ms).dwell } := ScanGroup.searchIn_only _ _ _

/-- The search does not change which members are eligible. -/
theorem ScanGroup.searchIn_eligible (a : Activity) (g : ScanGroup) (order : List Nat) :
    (g.searchIn a order).eligibleAt = g.eligibleAt ∧ (g.searchIn a order).dwellAt = g.dwellAt := by
  rw [g.searchIn_only a order]
  exact ⟨rfl, rfl⟩

theorem State.setScan_good {s : State} {r : WorkRecord} {g : GroupNo} {ms : List Member}
    (good : (taken s r).checkSetScan r = .ok (g, ms)) : (taken s r).setScan r =
      (.done, (placedGroup s.activity r ms).detail, { taken s r with
        groups := s.groups.set g (placedGroup s.activity r ms)
        streams := ((((taken s r).readBeforeTake g).memberLosses s.groups[g].members).memberGains ms).streams
        switch := (s.readBeforeTake g).switch }) := by
  unfold State.setScan
  rw [good]
  dsimp only
  rw [State.memberStreams_only, State.readBeforeTake_taken]
  rfl

/-- Settles O27: the first failing member, the placed group and the streams' counts. -/
theorem setScanTaken : Obligations.SetScanTaken := by
  refine ⟨fun s r hf => ?_, fun a g => ?_, fun w => ?_⟩
  · dsimp only
    rw [exec_setScan]
    have refuses {o : OutcomeCode} {d : Octet} (h : (taken s r).checkSetScan r = .error (o, d)) :=
      take_refuses hf (k := .setScan) (by decide) (State.setScan_error h)
    refine ⟨fun bad => refuses (State.checkSetScan_group bad), fun group bad => refuses (State.checkSetScan_count group bad),
      fun group count bad => refuses (State.checkSetScan_length group count bad), fun i group count length hi pass => ?_,
      fun g ms group count length members good => ?_⟩
    · have checks := State.checkSetScan_members (s := taken s r) group count length
      have first {e : OutcomeCode × Octet}
          (fails : ∀ rest, (taken s r).checkMembers (1 + i) (r.word (1 + i) :: rest) = .error e) :
          (taken s r).checkSetScan r = .error e := by
        rw [checks, State.checkMembers_first (s := taken s r) hi pass fails]
      refine ⟨fun o bad => refuses (first fun rest => ?_), fun m n parsed names closed => refuses (first fun rest => ?_)⟩
      · rw [State.checkMembers_bad _ bad, Nat.add_comm 1]
        rfl
      · rw [State.checkMembers_noStream (s := taken s r) parsed names closed, Nat.add_comm 1]
        rfl
    · have small : (r.byte 0 0).toNat < 8 := group ▸ g.isLt
      have same : (⟨(r.byte 0 0).toNat, small⟩ : GroupNo) = g := Fin.ext group
      have checks : (taken s r).checkSetScan r = .ok (g, ms) := by
        rw [State.checkSetScan_members small count length, State.checkMembers_good (ms := ms) 1 (by simpa using members)
          fun i hi => by rw [List.getElem_map, List.getElem_range]; exact good i hi, same]
      have found := ScanGroup.searchIn_eligible s.activity
        { members := ms, skipSilent := (r.byte 0 2).getLsbD 0, hold := (r.byte 0 2).getLsbD 1 } (List.range ms.length)
      refine ⟨placedGroup s.activity r ms, _, (take_answers hf (by decide) (State.setScan_good checks)).trans rfl, ?_, ?_, ?_,
        fun i current => ?_, fun empty => ?_, fun n => ?_⟩
      · rw [placedGroup_only]
      · rw [placedGroup_only]
      · rw [placedGroup_only]
      · obtain ⟨eligible, dwell, -⟩ := ScanGroup.searchIn_some current
        exact ⟨(congrFun (congrFun found.1 _) i).trans eligible, dwell.trans (congrFun found.2 i).symm,
          fun j below => (congrFun (congrFun found.1 _) j).trans (ScanGroup.fromStart_first current j below)⟩
      · obtain ⟨dwell, none_⟩ := ScanGroup.searchIn_empty empty
        exact ⟨dwell, fun j => (congrFun (congrFun found.1 _) j).trans
          (ScanGroup.none_eligible (ScanGroup.mem_fromStart _) none_ j)⟩
      · rw [State.memberStreams, State.readBeforeTake_taken]
        exact ⟨rfl, rfl, rfl⟩
  · refine ⟨g.eligibleAt_iff a, fun i m member => ?_, fun empty => ?_, fun i current => ?_⟩
    · rw [ScanGroup.dwellAt, member]
    · rw [ScanGroup.detail, empty]
    · rw [ScanGroup.detail, current]
      rfl
  · refine ⟨parseMember_other, fun kind bad => ?_, fun k kind port slot => ?_, fun kind bad => ?_, fun n kind stream => ?_⟩
    · rw [parseMember_slot kind, slotIndex?_none bad]
    · rw [parseMember_slot kind, slotIndex?_of port slot]
    · exact (parseMember_stream kind).trans (dif_neg (by omega))
    · have small : (wordByte w 1).toNat < 16 := stream ▸ n.isLt
      have same : (⟨(wordByte w 1).toNat, small⟩ : StreamNo) = n := Fin.ext stream
      rw [parseMember_stream kind, dif_pos small, same]

/-! ### SCAN_CONTROL (05 R99 to R102) -/

theorem ScanGroup.control_hold (a : Activity) (g : ScanGroup) (i : Nat) : g.control a 1 i = .ok { g with hold := true } := rfl

theorem ScanGroup.control_release (a : Activity) (g : ScanGroup) (i : Nat) : g.control a 2 i = .ok { g with hold := false } := rfl

theorem ScanGroup.control_step (a : Activity) (g : ScanGroup) (i : Nat) : g.control a 3 i = .ok (g.search a) := rfl

theorem ScanGroup.control_select (a : Activity) (g : ScanGroup) (i : Nat) : g.control a 4 i =
    if 8 ≤ i then .error .badField else if g.eligibleAt a i then .ok (g.choose i) else .error .state := rfl

theorem ScanGroup.unmoved_hold (g : ScanGroup) : g.unmoved 1 = g.hold := by simp [ScanGroup.unmoved]

theorem ScanGroup.unmoved_release (g : ScanGroup) : g.unmoved 2 = !g.hold := by simp [ScanGroup.unmoved]

theorem ScanGroup.control_other {action : Nat} (a : Activity) (g : ScanGroup) (i : Nat) (h : action = 0 ∨ 4 < action) :
    g.control a action i = .error .badField := by
  unfold ScanGroup.control
  rw [if_neg (by omega), if_neg (by omega), if_neg (by omega), if_neg (by omega)]

section
variable {s : State} {r : WorkRecord}

theorem State.scanControl_noGroup (h : 8 ≤ (r.byte 0 0).toNat) : s.scanControl r = (.badField, 0, s) := dif_neg (by omega)

theorem State.scanControl_group {g : GroupNo} (h : (r.byte 0 0).toNat = g.val) : s.scanControl r =
    match s.groups[g].control s.activity (r.byte 0 1).toNat (r.byte 0 2).toNat with
    | .error o => (o, 0, s)
    | .ok t => (.done, t.detail, (s.readBeforeControl g (r.byte 0 1).toNat).onGroup g fun _ => t) := by
  obtain ⟨number, small⟩ := g
  dsimp only at h
  subst h
  exact dif_pos small

theorem State.scanControl_error {g : GroupNo} {o : OutcomeCode} (h : (r.byte 0 0).toNat = g.val)
    (fails : s.groups[g].control s.activity (r.byte 0 1).toNat (r.byte 0 2).toNat = .error o) :
    s.scanControl r = (o, 0, s) := by
  rw [State.scanControl_group h, fails]

theorem State.scanControl_badAction (h : r.byte 0 1 = 0 ∨ 4 < (r.byte 0 1).toNat) : s.scanControl r = (.badField, 0, s) := by
  by_cases group : (r.byte 0 0).toNat < 8
  · exact State.scanControl_error (g := ⟨_, group⟩) rfl
      (ScanGroup.control_other _ _ _ (h.imp_left fun zero => by rw [zero]; rfl))
  · exact State.scanControl_noGroup (by omega)

/-- A SCAN_CONTROL that changes its group. -/
theorem State.scanControl_changes {g : GroupNo} {t : ScanGroup} (h : (r.byte 0 0).toNat = g.val)
    (ok : s.groups[g].control s.activity (r.byte 0 1).toNat (r.byte 0 2).toNat = .ok t)
    (moved : s.groups[g].unmoved (r.byte 0 1).toNat = false) : (taken s r).scanControl r =
      (.done, t.detail, { taken s r with groups := s.groups.set g t, switch := (s.readBeforeTake g).switch }) := by
  rw [State.scanControl_group h, show (taken s r).groups[g].control (taken s r).activity (r.byte 0 1).toNat (r.byte 0 2).toNat
    = .ok t from ok]
  dsimp only
  rw [(taken s r).readBeforeControl_moved g _ moved, State.readBeforeTake_taken]
  rfl

/-- A SCAN_CONTROL that changes nothing. -/
theorem State.scanControl_stays {g : GroupNo} (h : (r.byte 0 0).toNat = g.val)
    (ok : s.groups[g].control s.activity (r.byte 0 1).toNat (r.byte 0 2).toNat = .ok s.groups[g])
    (unmoved : s.groups[g].unmoved (r.byte 0 1).toNat = true) : s.scanControl r = (.done, s.groups[g].detail, s) := by
  rw [State.scanControl_group h, ok]
  dsimp only
  rw [s.readBeforeControl_unmoved g _ unmoved]
  have same : s.groups.set g s.groups[g] = s.groups := by simp
  exact Prod.ext rfl (Prod.ext rfl (congrArg (fun gs => { s with groups := gs }) same))

end

/-- The command of an action takes its records, and those with an action code outside the table. -/
def scanCommand : Octet → Instr
  | 1 => .scanControlHold
  | 2 => .scanControlRelease
  | 3 => .scanControlStep
  | _ => .scanControlSelect

theorem exec_scanControl {code : Octet} (h : code = 1 ∨ code = 2 ∨ code = 3 ∨ code = 4) (s : State) :
    exec (scanCommand code) s = whileReleased s fun s => s.takeWith (scanAction code) (ending State.scanControl) := by
  rcases h with rfl | rfl | rfl | rfl <;> rfl

theorem scanControl_answers {s u : State} {r : WorkRecord} {code : Octet} {o : OutcomeCode} {d : Octet}
    (hf : Found s .scanControl r) (h : code = 1 ∨ code = 2 ∨ code = 3 ∨ code = 4)
    (mine : r.byte 0 1 = code ∨ r.byte 0 1 = 0 ∨ 4 < (r.byte 0 1).toNat)
    (answer : (taken s r).scanControl r = (o, d, u)) : exec (scanCommand code) s = .next (u.endTake r.held o d) := by
  have taking : scanAction code r = true := by
    unfold scanAction
    rw [isKind_of _ r hf.2.2]
    simpa [or_assoc] using mine
  rw [exec_scanControl h, take_next s .scanControl r _ _ hf taking (ownerFull_false s r _ hf.2.2 (by decide))]
  unfold ending
  dsimp only
  rw [answer]

theorem scanControl_refuses {s : State} {r : WorkRecord} {code : Octet} {o : OutcomeCode} {d : Octet}
    (hf : Found s .scanControl r) (h : code = 1 ∨ code = 2 ∨ code = 3 ∨ code = 4)
    (mine : r.byte 0 1 = code ∨ r.byte 0 1 = 0 ∨ 4 < (r.byte 0 1).toNat)
    (answer : (taken s r).scanControl r = (o, d, taken s r)) : exec (scanCommand code) s = .next (ended s r o d) :=
  scanControl_answers hf h mine answer

/-- A group whose flag stands as it is set stays as it was. -/
theorem ScanGroup.hold_same (g : ScanGroup) {b : Bool} (h : g.hold = b) : ({ g with hold := b } : ScanGroup) = g := by
  subst h
  rfl

/-- Settles O28: the actions one by one. -/
theorem scanControlTaken : Obligations.ScanControlTaken := by
  refine ⟨fun s r hf => ⟨fun c hc bad => ?_, fun x hx group action => ?_, fun g group action held => ?_,
    fun g group action free => ?_, fun g group action free => ?_, fun g group action held => ?_⟩,
    fun s r g hf group action => ?_, fun s r g hf group action => ⟨fun bad => ?_, fun small not_ => ?_, fun small eligible => ?_⟩⟩
  · have refuses {code : Octet} (h : code = 1 ∨ code = 2 ∨ code = 3 ∨ code = 4) :=
      scanControl_refuses hf h (.inr bad) (State.scanControl_badAction bad)
    simp only [List.mem_cons, List.not_mem_nil, or_false] at hc
    rcases hc with rfl | rfl | rfl | rfl
    · exact refuses (code := 1) (.inl rfl)
    · exact refuses (code := 2) (.inr (.inl rfl))
    · exact refuses (code := 3) (.inr (.inr (.inl rfl)))
    · exact refuses (code := 4) (.inr (.inr (.inr rfl)))
  · have refuses {code : Octet} (h : code = 1 ∨ code = 2 ∨ code = 3 ∨ code = 4) (action : r.byte 0 1 = code) :=
      scanControl_refuses hf h (.inl action) (State.scanControl_noGroup group)
    simp only [List.mem_cons, List.not_mem_nil, or_false] at hx
    rcases hx with rfl | rfl | rfl | rfl
    · exact refuses (.inl rfl) action
    · exact refuses (.inr (.inl rfl)) action
    · exact refuses (.inr (.inr (.inl rfl))) action
    · exact refuses (.inr (.inr (.inr rfl))) action
  · refine scanControl_refuses hf (.inl rfl) (.inl action) (State.scanControl_stays (g := g) group ?_ ?_)
    · rw [action]
      exact congrArg Except.ok (s.groups[g].hold_same held)
    · rw [action]
      exact s.groups[g].unmoved_hold.trans held
  · refine scanControl_refuses hf (.inr (.inl rfl)) (.inl action) (State.scanControl_stays (g := g) group ?_ ?_)
    · rw [action]
      exact congrArg Except.ok (s.groups[g].hold_same free)
    · rw [action]
      exact s.groups[g].unmoved_release.trans (congrArg not free)
  · refine (scanControl_answers hf (.inl rfl) (.inl action)
      (State.scanControl_changes (t := { s.groups[g] with hold := true }) group (by rw [action]; rfl) ?_)).trans rfl
    rw [action]
    exact s.groups[g].unmoved_hold.trans free
  · refine (scanControl_answers hf (.inr (.inl rfl)) (.inl action)
      (State.scanControl_changes (t := { s.groups[g] with hold := false }) group (by rw [action]; rfl) ?_)).trans rfl
    rw [action]
    exact s.groups[g].unmoved_release.trans (congrArg not held)
  · refine ⟨s.groups[g].search s.activity, (scanControl_answers hf (code := 3) (.inr (.inr (.inl rfl))) (.inl action)
      (State.scanControl_changes group (by rw [action]; rfl) (by rw [action]; rfl))).trans rfl, s.groups[g].search_only s.activity,
      fun i found => ?_, fun empty => ?_, fun i before found => ?_, fun c d i before inside found _ first => ?_⟩
    · obtain ⟨eligible, dwell⟩ := ScanGroup.search_some found
      exact ⟨ScanGroup.eligibleAt_lt eligible, eligible, dwell⟩
    · exact ScanGroup.search_nothing empty
    · rw [ScanGroup.search_empty before] at found
      exact ScanGroup.fromStart_first found
    · rw [ScanGroup.search_running before] at found
      exact ScanGroup.onward_first found first
  · refine scanControl_refuses hf (code := 4) (.inr (.inr (.inr rfl))) (.inl action) (State.scanControl_error group ?_)
    rw [action]
    exact if_pos bad
  · refine scanControl_refuses hf (code := 4) (.inr (.inr (.inr rfl))) (.inl action) (State.scanControl_error group ?_)
    rw [action]
    exact (ScanGroup.control_select _ _ _).trans ((if_neg (by omega)).trans (if_neg (by rw [Bool.not_eq_true]; exact not_)))
  · have chosen : s.groups[g].control s.activity (r.byte 0 1).toNat (r.byte 0 2).toNat =
        .ok (s.groups[g].choose (r.byte 0 2).toNat) := by
      rw [action]
      exact (ScanGroup.control_select _ _ _).trans ((if_neg (by omega)).trans (if_pos eligible))
    have detail : (s.groups[g].choose (r.byte 0 2).toNat).detail = r.byte 0 2 := BitVec.ofNat_toNat 8 (r.byte 0 2)
    refine (scanControl_answers hf (code := 4) (.inr (.inr (.inr rfl))) (.inl action)
      (State.scanControl_changes group chosen (by rw [action]; rfl))).trans ?_
    rw [detail]
    rfl

end Sys2Proof.Machine
end

section
/-! PROOFS. One stream at the memory port: what an access does on a good and on a failing bus cycle, the stream put in place of
another, and the takes of OPEN_STREAM and CLOSE_STREAM. -/

namespace Sys2Proof.Machine

/-! ### One access by its bus cycle -/

section
variable {s t : State}

theorem State.readWord_good (h : s.busCycle = (true, t)) (off : Offset) :
    s.readWord off = (some (t.mem.readWord (t.busAddress off)), t) := by
  unfold State.readWord
  rw [h]
  rfl

theorem State.readWord_failed (h : s.busCycle = (false, t)) (off : Offset) : s.readWord off = (none, t) := by
  unfold State.readWord
  rw [h]
  rfl

theorem State.writeWord_good (h : s.busCycle = (true, t)) (off : Offset) (w : Word) :
    s.writeWord off w = (true, { t with mem := t.mem.writeWord (t.busAddress off) w }) := by
  unfold State.writeWord
  rw [h]
  rfl

theorem State.writeWord_failed (h : s.busCycle = (false, t)) (off : Offset) (w : Word) : s.writeWord off w = (false, t) := by
  unfold State.writeWord
  rw [h]
  rfl

theorem State.exchange_good (h : s.busCycle = (true, t)) (off : Offset) (f : Word → Word) :
    s.exchange off f = (some (t.mem.readWord (t.busAddress off)),
      { t with mem := t.mem.writeWord (t.busAddress off) (f (t.mem.readWord (t.busAddress off))) }) := by
  unfold State.exchange
  rw [h]
  rfl

theorem State.exchange_failed (h : s.busCycle = (false, t)) (off : Offset) (f : Word → Word) : s.exchange off f = (none, t) := by
  unfold State.exchange
  rw [h]
  rfl

/-- The first bus cycle is the one that fails. -/
theorem State.busCycle_fails (h : s.bus = { cycles := errorAfter 0 }) : s.busCycle = (false, { s with bus := {} }) := by
  unfold State.busCycle
  rw [h]
  rfl

/-- A bus cycle before the one that fails. -/
theorem State.busCycle_before {k : Nat} (h : s.bus = { cycles := errorAfter (k + 1) }) :
    s.busCycle = (true, { s with bus := { cycles := errorAfter k } }) := by
  unfold State.busCycle
  rw [h]
  rfl

end

/-! ### A state with one stream replaced, its memory and its bus -/

/-- The state with stream `n` replaced, and the memory and the bus of an access put in. -/
def State.streamed (s : State) (n : StreamNo) (m : Memory) (b : Bus) (x : Stream) : State :=
  { s with mem := m, bus := b, streams := s.streams.set n x }

section
variable (s : State) (n : StreamNo) (m : Memory) (b : Bus) (x : Stream)

theorem State.streamed_get : (s.streamed n m b x).streams[n] = x := Vector.get_set_same _ _ _

theorem State.streamed_self : s.streamed n s.mem s.bus s.streams[n] = s := by
  unfold State.streamed
  simp

theorem State.onStream_streamed (f : Stream → Stream) : (s.streamed n m b x).onStream n f = s.streamed n m b (f x) := by
  unfold State.streamed State.onStream updAt
  simp

variable {x} in
theorem State.onDesc_streamed {d : StreamDesc} (h : x.desc = some d) (f : StreamDesc → StreamDesc) :
    (s.streamed n m b x).onDesc n f = s.streamed n m b { x with desc := some (f d) } := by
  unfold State.onDesc
  rw [State.onStream_streamed, h]
  rfl

theorem State.streamed_word (off : Offset) (w : Word) : (s.streamed n m {} x).writeWord off w =
    (true, s.streamed n (m.writeWord (s.busAddress off) w) {} x) :=
  State.writeWord_good (State.busCycle_quiet _ rfl) off w

theorem State.streamed_word_before (k : Nat) (off : Offset) (w : Word) :
    (s.streamed n m { cycles := errorAfter (k + 1) } x).writeWord off w =
      (true, s.streamed n (m.writeWord (s.busAddress off) w) { cycles := errorAfter k } x) :=
  State.writeWord_good (State.busCycle_before rfl) off w

theorem State.streamed_word_fails (off : Offset) (w : Word) :
    (s.streamed n m { cycles := errorAfter 0 } x).writeWord off w = (false, s.streamed n m {} x) :=
  State.writeWord_failed (State.busCycle_fails rfl) off w

theorem State.streamed_exchange (off : Offset) (f : Word → Word) : (s.streamed n m {} x).exchange off f =
    (some (m.readWord (s.busAddress off)),
      s.streamed n (m.writeWord (s.busAddress off) (f (m.readWord (s.busAddress off)))) {} x) :=
  State.exchange_good (State.busCycle_quiet _ rfl) off f

theorem State.streamed_exchange_before (k : Nat) (off : Offset) (f : Word → Word) :
    (s.streamed n m { cycles := errorAfter (k + 1) } x).exchange off f =
      (some (m.readWord (s.busAddress off)),
        s.streamed n (m.writeWord (s.busAddress off) (f (m.readWord (s.busAddress off)))) { cycles := errorAfter k } x) :=
  State.exchange_good (State.busCycle_before rfl) off f

theorem State.streamed_exchange_fails (off : Offset) (f : Word → Word) :
    (s.streamed n m { cycles := errorAfter 0 } x).exchange off f = (none, s.streamed n m {} x) :=
  State.exchange_failed (State.busCycle_fails rfl) off f

/-- What is left of a descriptor in FAULT (06 R122). -/
def StreamDesc.faulted (d : StreamDesc) : StreamDesc :=
  { d with status := .fault, accesses := [], finished := false, buffer := [], resumeDue := false }

variable {x} in
/-- An access to the status block fails: the stream is in FAULT, and no further access is made (06 R122). -/
theorem State.faultStream_streamed {d : StreamDesc} (h : x.desc = some d) (e : StreamDesc) :
    (s.streamed n m b x).faultStream n e true =
      withCause (withCause (s.streamed n m b { x with desc := some d.faulted }) .stream) .bus := by
  unfold State.faultStream
  dsimp only
  rw [State.onDesc_streamed _ _ _ _ h]
  rfl

end

/-! ### Words of the status block (06 6.2) -/

theorem withBreak_withStatus (flag code : Octet) (w : Word) :
    withBreak flag (withStatus code w) = wordOf (wordByte w 0) (wordByte w 1) code flag := by
  simp [withBreak, withStatus]

theorem Direction.waiting_eq (dir : Direction) : dir.waiting = if dir = .feed then .muted else .stalled := by
  cases dir <;> rfl

theorem octet_eq_iff {b : Octet} (n : Nat) (h : n < 256) : b = BitVec.ofNat 8 n ↔ b.toNat = n := by
  constructor
  · rintro rfl
    rw [BitVec.toNat_ofNat, Nat.mod_eq_of_lt h]
  · intro same
    rw [← same, BitVec.ofNat_toNat, BitVec.setWidth_eq]

theorem slotIndex?_inside {a b : Nat} (h : a < 4 ∧ 2 ≤ b ∧ b ≤ 31) :
    ∃ k, slotIndex? a b = some k ∧ (SlotIndex.port k).val = a ∧ (SlotIndex.slot k).val = b := by
  refine ⟨⟨30 * a + (b - 2), by omega⟩, dif_pos (by omega), ?_, ?_⟩
  · show (30 * a + (b - 2)) / 30 = a
    omega
  · show (30 * a + (b - 2)) % 30 + 2 = b
    omega

/-! ### OPEN_STREAM (06 R110, R111) -/

/-- The direction that the body of an OPEN_STREAM names. -/
def WorkRecord.direction? (r : WorkRecord) : Option Direction :=
  if (r.byte 0 1).toNat = 1 then (slotIndex? (r.byte 1 0).toNat (r.byte 1 1).toNat).map Direction.tap else some .feed

/-- The length of a half in the body of an OPEN_STREAM. -/
def WorkRecord.halfLength (r : WorkRecord) : Nat := (r.byte 1 2).toNat + 256 * (r.byte 1 3).toNat

section
variable {s : State} {r : WorkRecord} {n : StreamNo}

theorem State.checkOpen_noNumber (h : 16 ≤ (r.byte 0 0).toNat) : s.checkOpen r = .error (.badField, 0) := dif_neg (by omega)

theorem State.checkOpen_number (h : (r.byte 0 0).toNat = n.val) : s.checkOpen r =
    if (r.byte 0 1).toNat ≠ 1 ∧ (r.byte 0 1).toNat ≠ 2 then .error (.badField, 0)
    else if s.streams[n].desc.isSome then .error (.inUse, 0)
    else if r.halfLength < 8 ∨ 1024 < r.halfLength ∨ r.halfLength % 4 ≠ 0 then .error (.badField, 0)
    else match r.direction? with
      | none => .error (.badSlot, 0)
      | some dir =>
        match areaOffset? (r.word 2) r.halfLength, areaOffset? (r.word 3) r.halfLength, areaOffset? (r.word 4) 8 with
        | none, _, _ => .error (.badOffset, 1)
        | some _, none, _ => .error (.badOffset, 2)
        | some _, some _, none => .error (.badOffset, 3)
        | some a, some b, some block => .ok (n, {
            status := .opened, dir, halfA := a, halfB := b, len := r.halfLength, block, notify := (r.byte 0 2).getLsbD 0 }) := by
  obtain ⟨number, small⟩ := n
  dsimp only at h
  subst h
  exact dif_pos small

theorem State.openStream_error {o : OutcomeCode} {d : Octet} (h : s.checkOpen r = .error (o, d)) :
    s.openStream r = (o, d, s) := by
  unfold State.openStream
  rw [h]

end

theorem openStatus_eq (dir : Direction) (w : Word) :
    openStatus dir w = if wordByte w 0 = 0 then .opened else if dir = .feed then .muted else .stalled := by
  rw [← dir.waiting_eq]
  rfl

theorem openStatus_opened (dir : Direction) (w : Word) : openStatus dir w = .opened ↔ wordByte w 0 = 0 := by
  rw [openStatus_eq]
  split
  · simp_all
  · split <;> simp_all

/-- The descriptor that a stream opens with, status word 0 as read (06 R111). -/
def StreamDesc.openedOn (d : StreamDesc) (w : Word) : StreamDesc :=
  { d with
    status := openStatus d.dir w
    accesses := if d.dir = .feed ∧ wordByte w 0 = 0 then [.getWord d.halfA 0] else [] }

theorem StreamDesc.openedOn_running (d : StreamDesc) {w : Word} (fresh : d.accesses = [] ∧ d.half = .a)
    (runs : d.dir = .feed ∧ openStatus d.dir w = .opened) :
    StreamDesc.readFirst { d with status := openStatus d.dir w } = d.openedOn w := by
  rw [openStatus_opened] at runs
  simp [StreamDesc.readFirst, StreamDesc.openedOn, StreamDesc.halfOffset, fresh, runs]

theorem StreamDesc.openedOn_resting (d : StreamDesc) {w : Word} (fresh : d.accesses = [] ∧ d.half = .a)
    (rests : ¬ (d.dir = .feed ∧ openStatus d.dir w = .opened)) : { d with status := openStatus d.dir w } = d.openedOn w := by
  rw [openStatus_opened] at rests
  rw [StreamDesc.openedOn, if_neg rests, ← fresh.1]

section
variable {s : State} {r : WorkRecord} {n : StreamNo} {d : StreamDesc}

/-- Memory with the exchange of an OPEN_STREAM made. -/
def State.openExchanged (s : State) (d : StreamDesc) : Memory :=
  let w := s.mem.readWord (s.busAddress d.block)
  s.mem.writeWord (s.busAddress d.block) (wordOf (wordByte w 0) (wordByte w 1) (openStatus d.dir w).code 0)

theorem State.openStream_opens (h : (taken (s.setBus {}) r).checkOpen r = .ok (n, d)) (fresh : d.accesses = [] ∧ d.half = .a) :
    (taken (s.setBus {}) r).openStream r =
      (.done, (openStatus d.dir (s.mem.readWord (s.busAddress d.block))).code, (taken s r).streamed n
        ((s.openExchanged d).writeWord (s.busAddress (d.block + 4)) 0x00FF0000) {}
        { desc := some (d.openedOn (s.mem.readWord (s.busAddress d.block))) }) := by
  have placed : (taken (s.setBus {}) r).onStream n (fun _ => { desc := some d }) =
      (taken s r).streamed n s.mem {} { desc := some d } := rfl
  unfold State.openStream
  rw [h]
  dsimp only
  rw [placed, State.streamed_exchange]
  dsimp only
  rw [State.streamed_word, withBreak_withStatus]
  dsimp only
  rw [State.onDesc_streamed _ _ _ _ (x := { desc := some d }) rfl, State.onDesc_streamed _ _ _ _ rfl]
  rw [show (taken s r).busAddress = s.busAddress from rfl]
  by_cases runs : d.dir = .feed ∧ openStatus d.dir (s.mem.readWord (s.busAddress d.block)) = .opened
  · have first := d.openedOn_running fresh runs
    rw [← first, if_pos runs]
    rfl
  · have rests := d.openedOn_resting fresh runs
    rw [← rests, if_neg runs]
    rfl

theorem State.openStream_exchangeFails (h : (taken (s.setBus { cycles := errorAfter 0 }) r).checkOpen r = .ok (n, d)) :
    (taken (s.setBus { cycles := errorAfter 0 }) r).openStream r = (.busError, 5, withCause (withCause
      ((taken s r).streamed n s.mem {} { desc := some d.faulted }) .stream) .bus) := by
  have placed : (taken (s.setBus { cycles := errorAfter 0 }) r).onStream n (fun _ => { desc := some d }) =
      (taken s r).streamed n s.mem { cycles := errorAfter 0 } { desc := some d } := rfl
  unfold State.openStream
  rw [h]
  dsimp only
  rw [placed, State.streamed_exchange_fails]
  dsimp only
  rw [State.faultStream_streamed _ _ _ _ (x := { desc := some d }) rfl]
  rfl

theorem State.openStream_wordFails (h : (taken (s.setBus { cycles := errorAfter 1 }) r).checkOpen r = .ok (n, d)) :
    (taken (s.setBus { cycles := errorAfter 1 }) r).openStream r = (.busError, 5, withCause (withCause
      ((taken s r).streamed n (s.openExchanged d) {} { desc := some d.faulted }) .stream) .bus) := by
  have placed : (taken (s.setBus { cycles := errorAfter 1 }) r).onStream n (fun _ => { desc := some d }) =
      (taken s r).streamed n s.mem { cycles := errorAfter 1 } { desc := some d } := rfl
  unfold State.openStream
  rw [h]
  dsimp only
  rw [placed, State.streamed_exchange_before]
  dsimp only
  rw [State.streamed_word_fails]
  dsimp only
  rw [State.faultStream_streamed _ _ _ _ (x := { desc := some d }) rfl, withBreak_withStatus]
  rfl

end

theorem exec_openStream (s : State) (bus : List BusCycle) : exec (.openStream bus) s =
    whileReleasedBus s bus fun s => s.takeWith (ofKind .openStream) (ending State.openStream) := rfl

theorem goodArea {w : Word} {size : Nat} (h : w.toNat % 4 = 0 ∧ 0x40 ≤ w.toNat ∧ w.toNat + size ≤ 0x100000) :
    areaOffset? w size = some (w.setWidth 20) := if_pos h

theorem badArea {w : Word} {size : Nat} (h : ¬ (w.toNat % 4 = 0 ∧ 0x40 ≤ w.toNat ∧ w.toNat + size ≤ 0x100000)) :
    areaOffset? w size = none := if_neg h

section
variable {r : WorkRecord}

theorem WorkRecord.direction?_bad (tap : r.byte 0 1 = 1) (bad : ¬ ((r.byte 1 0).toNat < 4 ∧ 2 ≤ (r.byte 1 1).toNat ∧ (r.byte 1 1).toNat ≤ 31)) :
    r.direction? = none := by
  unfold WorkRecord.direction?
  rw [tap, slotIndex?_none (by omega)]
  rfl

theorem WorkRecord.direction?_good (dir : r.byte 0 1 = 1 ∨ r.byte 0 1 = 2)
    (slot : r.byte 0 1 = 1 → (r.byte 1 0).toNat < 4 ∧ 2 ≤ (r.byte 1 1).toNat ∧ (r.byte 1 1).toNat ≤ 31) :
    ∃ dir, r.direction? = some dir ∧ (r.byte 0 1 = 2 → dir = .feed) ∧
      (r.byte 0 1 = 1 → ∃ k : SlotIndex, dir = .tap k ∧ (SlotIndex.port k).val = (r.byte 1 0).toNat ∧
        (SlotIndex.slot k).val = (r.byte 1 1).toNat) := by
  unfold WorkRecord.direction?
  rcases dir with tap | feed
  · obtain ⟨k, found, port, place⟩ := slotIndex?_inside (slot tap)
    rw [tap, found]
    exact ⟨.tap k, rfl, fun h => absurd h (by decide), fun _ => ⟨k, rfl, port, place⟩⟩
  · rw [feed]
    exact ⟨.feed, rfl, fun _ => rfl, fun h => absurd h (by decide)⟩

end

/-- Settles O29: the checks in their order, and the three ends of an opening. -/
theorem openStreamTaken : Obligations.OpenStreamTaken := by
  intro s r hf
  have refuses {o : OutcomeCode} {d : Octet} (h : ∀ t : State, t.streams = s.streams → t.checkOpen r = .error (o, d))
      (bus : List BusCycle) : exec (.openStream bus) s = .next { ended s r o d with bus := {} } :=
    take_refusesBus (k := .openStream) hf (by decide) (State.openStream_error (h _ rfl))
  refine ⟨fun bus bad => refuses (fun t _ => State.checkOpen_noNumber bad) bus, fun n number => ?_⟩
  dsimp only
  have direction {b : Octet} : ¬ (b.toNat ≠ 1 ∧ b.toNat ≠ 2) ↔ b = 1 ∨ b = 2 := by
    rw [show b = 1 ↔ b.toNat = 1 from octet_eq_iff 1 (by decide), show b = 2 ↔ b.toNat = 2 from octet_eq_iff 2 (by decide)]
    omega
  refine ⟨fun bad => refuses fun t _ => ?_, fun dir used => refuses fun t same => ?_, fun dir free =>
    ⟨fun bad => refuses fun t same => ?_, fun length bad => refuses fun t same => ?_, fun length slot =>
      ⟨fun bad => refuses fun t same => ?_, fun a bad => refuses fun t same => ?_, fun a b bad => refuses fun t same => ?_,
        fun a b block => ?_⟩⟩⟩
  · rw [State.checkOpen_number number, if_pos (not_not.1 fun good => bad (direction.1 good))]
  · rw [State.checkOpen_number number, if_neg (direction.2 dir), same, if_pos (Option.isSome_iff_ne_none.2 used)]
  all_goals
    have unused : ¬ s.streams[n].desc.isSome = true := by rw [free]; exact Bool.false_ne_true
  · have bad : r.halfLength < 8 ∨ 1024 < r.halfLength ∨ r.halfLength % 4 ≠ 0 := by
      unfold WorkRecord.halfLength
      omega
    rw [State.checkOpen_number number, if_neg (direction.2 dir), same, if_neg unused, if_pos bad]
  all_goals
    have fits : ¬ (r.halfLength < 8 ∨ 1024 < r.halfLength ∨ r.halfLength % 4 ≠ 0) := by
      unfold WorkRecord.halfLength
      omega
  · obtain ⟨tap, bad⟩ := Classical.not_imp.1 bad
    rw [State.checkOpen_number number, if_neg (direction.2 dir), same, if_neg unused, if_neg fits,
      WorkRecord.direction?_bad tap bad]
  all_goals
    obtain ⟨way, known, feed, tap⟩ := WorkRecord.direction?_good dir slot
  · rw [State.checkOpen_number number, if_neg (direction.2 dir), same, if_neg unused, if_neg fits, known]
    dsimp only
    rw [show areaOffset? (r.word 2) r.halfLength = none from badArea bad]
  · rw [State.checkOpen_number number, if_neg (direction.2 dir), same, if_neg unused, if_neg fits, known]
    dsimp only
    rw [show areaOffset? (r.word 2) r.halfLength = _ from goodArea a, show areaOffset? (r.word 3) r.halfLength = none from badArea bad]
  · rw [State.checkOpen_number number, if_neg (direction.2 dir), same, if_neg unused, if_neg fits, known]
    dsimp only
    rw [show areaOffset? (r.word 2) r.halfLength = _ from goodArea a, show areaOffset? (r.word 3) r.halfLength = _ from goodArea b,
      badArea bad]
  · have opens (t : State) (same : t.streams = s.streams) : t.checkOpen r = .ok (n, {
        status := .opened, dir := way, halfA := (r.word 2).setWidth 20, halfB := (r.word 3).setWidth 20, len := r.halfLength
        block := (r.word 4).setWidth 20, notify := (r.byte 0 2).getLsbD 0 }) := by
      rw [State.checkOpen_number number, if_neg (direction.2 dir), same, if_neg unused, if_neg fits, known]
      dsimp only
      rw [show areaOffset? (r.word 2) r.halfLength = _ from goodArea a,
        show areaOffset? (r.word 3) r.halfLength = _ from goodArea b, goodArea block]
    refine ⟨way, feed, tap, ?_, ?_, ?_⟩
    · refine (take_answersBus (k := .openStream) hf (by decide) (State.openStream_opens (opens _ rfl) ⟨rfl, rfl⟩)).trans ?_
      simp only [StreamDesc.openedOn, State.openExchanged, openStatus_eq]
      rfl
    · exact (take_answersBus (k := .openStream) hf (by decide) (State.openStream_exchangeFails (opens _ rfl))).trans rfl
    · refine (take_answersBus (k := .openStream) hf (by decide) (State.openStream_wordFails (opens _ rfl))).trans ?_
      simp only [State.openExchanged, openStatus_eq]
      rfl

/-! ### CLOSE_STREAM (06 R119 to R121) -/

theorem wordOfList_octets (fill : Octet) (l : List Octet) :
    wordOfList fill l = l.getD 3 fill ++ l.getD 2 fill ++ l.getD 1 fill ++ l.getD 0 fill := rfl

/-- Word 1 of the status block, as a number of octets and a half are written there. -/
theorem statusWord1_eq (fill : Nat) (last : Option Half) :
    statusWord1 fill last = wordOf (BitVec.ofNat 8 fill) (BitVec.ofNat 8 (fill / 256)) (lastHandedCode last) 0 := by
  unfold statusWord1
  rw [octet_mod]
  rfl

theorem lastHandedCode_some (h : Half) : lastHandedCode (some h) = if h = .a then 0 else 1 := by cases h <;> rfl

theorem StreamDesc.halfOffset_eq (d : StreamDesc) (h : Half) : d.halfOffset h = if h = .a then d.halfA else d.halfB := by
  cases h <;> rfl

/-- The exchange of a close (06 R120). -/
theorem StreamDesc.closeWord_eq (d : StreamDesc) (w : Word) : d.closeWord w =
    wordOf (if d.status = .opened ∧ d.half = .a then 1 else wordByte w 0) (if d.status = .opened ∧ d.half = .b then 1 else wordByte w 1)
      4 (wordByte w 3) := by
  unfold StreamDesc.closeWord
  dsimp only
  by_cases opened : d.status = .opened
  · cases h : d.half <;> simp [opened, withOwner, withStatus, closedCode, ownerHost]
  · simp [opened, withStatus, closedCode]

section
variable {d : StreamDesc}

theorem StreamDesc.closeWrites_opened (opened : d.status = .opened) : d.closeWrites =
    (if d.position % 4 = 0 ∨ d.dir = .feed then []
      else [.word (d.halfOffset d.half + BitVec.ofNat 20 (d.position - d.position % 4)) (wordOfList idleOctet d.buffer)]) ++
    [.word (d.block + 4) (statusWord1 d.position (some d.half))] := by
  unfold StreamDesc.closeWrites
  rw [opened]
  cases d.dir <;> simp

theorem StreamDesc.closeWrites_waiting (opened : d.status ≠ .opened) (fault : d.status ≠ .fault) : d.closeWrites =
    [.word (d.block + 4) (statusWord1 (if d.lastHanded.isSome then d.len else 0) d.lastHanded)] := by
  unfold StreamDesc.closeWrites
  cases h : d.status with
  | opened => exact absurd h opened
  | fault => exact absurd h fault
  | stalled => rfl
  | muted => rfl

end

section
variable {s : State} {r : WorkRecord} {n : StreamNo}

theorem State.closeStream_noNumber (h : 16 ≤ (r.byte 0 0).toNat) : s.closeStream r = (.badField, 0, s) := dif_neg (by omega)

theorem State.closeStream_number (h : (r.byte 0 0).toNat = n.val) : s.closeStream r =
    if s.streams[n].desc.isNone then (.noStream, 0, s)
    else if 0 < s.streams[n].refs then (.inUse, 0, s)
    else match (((s.drain n).handover n).drain n).streams[n].desc with
      | none => (.noStream, 0, ((s.drain n).handover n).drain n)
      | some d => (((s.drain n).handover n).drain n).closeDesc n d := by
  obtain ⟨number, small⟩ := n
  dsimp only at h
  subst h
  exact dif_pos small

/-- With nothing outstanding and no handover due the close goes on at once. -/
theorem State.drain_empty {d : StreamDesc} (open_ : s.streams[n].desc = some d) (none_ : d.accesses = []) : s.drain n = s := by
  unfold State.drain
  rw [open_]
  dsimp only
  rw [none_]
  rfl

theorem State.handover_notDue {d : StreamDesc} (open_ : s.streams[n].desc = some d) (not_ : d.handoverDue = false) :
    s.handover n = s := by
  unfold State.handover
  rw [open_]
  dsimp only
  rw [not_]
  rfl

theorem State.closeStream_desc {d : StreamDesc} (h : (r.byte 0 0).toNat = n.val) (open_ : s.streams[n].desc = some d)
    (free : s.streams[n].refs = 0) (none_ : d.accesses = []) (not_ : d.handoverDue = false) :
    s.closeStream r = s.closeDesc n d := by
  rw [State.closeStream_number h, State.drain_empty open_ none_, State.handover_notDue open_ not_, State.drain_empty open_ none_,
    if_neg (by rw [open_]; exact Bool.false_ne_true), if_neg (by rw [free]; exact Nat.lt_irrefl 0), open_]

theorem State.closeDesc_fault {d : StreamDesc} (fault : d.status = .fault) : s.closeDesc n d = (.done, 5, s.freeStream n) := by
  unfold State.closeDesc
  rw [if_pos fault, fault]
  rfl

/-- The close with every access made. -/
theorem State.closeDesc_made {d : StreamDesc} (live : d.status ≠ .fault) (quiet : s.bus = {}) :
    s.closeDesc n d = (.done, d.status.code, ({ s with
      mem := (d.closeWrites.foldl (stored s) s.mem).writeWord (s.busAddress d.block)
        (d.closeWord ((d.closeWrites.foldl (stored s) s.mem).readWord (s.busAddress d.block))) } : State).freeStream n) := by
  have exchanged := State.exchange_quiet { s with mem := d.closeWrites.foldl (stored s) s.mem } d.block d.closeWord quiet
  unfold State.closeDesc
  rw [if_neg live, s.writes_quiet _ quiet]
  dsimp only
  rw [if_neg (Nat.lt_irrefl _), exchanged]
  rfl

/-- A bus error on one of the writes of a close. -/
theorem State.closeDesc_writeFails {d : StreamDesc} {k : Nat} (live : d.status ≠ .fault) (bus : s.bus = { cycles := errorAfter k })
    (hk : k < d.closeWrites.length) : s.closeDesc n d = (.busError, d.status.code,
      (({ s with mem := (d.closeWrites.take k).foldl (stored s) s.mem, bus := {} } : State).freeStream n).raise .bus) := by
  have cycles : s.bus.cycles = errorAfter k ++ [] := by rw [bus, List.append_nil]
  have written := State.writes_error d.closeWrites k s hk [] cycles
  unfold State.closeDesc
  rw [if_neg live, written]
  dsimp only
  rw [if_pos hk, bus]

/-- A bus error on the exchange of a close. -/
theorem State.closeDesc_exchangeFails {d : StreamDesc} (live : d.status ≠ .fault)
    (bus : s.bus = { cycles := errorAfter d.closeWrites.length }) : s.closeDesc n d = (.busError, d.status.code,
      (({ s with mem := d.closeWrites.foldl (stored s) s.mem, bus := {} } : State).freeStream n).raise .bus) := by
  have cycles : s.bus.cycles = List.replicate d.closeWrites.length ({} : BusCycle) ++ errorAfter 0 := by rw [bus]; rfl
  have written := State.writes_cycles d.closeWrites s (errorAfter 0) cycles
  rw [bus] at written
  have failed := State.exchange_failed (State.busCycle_fails
    (s := { s with mem := d.closeWrites.foldl (stored s) s.mem, bus := { cycles := errorAfter 0 } }) rfl) d.block d.closeWord
  unfold State.closeDesc
  rw [if_neg live, written]
  dsimp only
  rw [if_neg (Nat.lt_irrefl _), failed]

/-- A freed stream without references is as after reset. -/
theorem State.freeStream_unreferenced (free : s.streams[n].refs = 0) : s.freeStream n =
    { s with streams := s.streams.set n { desc := none, current := 0xFF, refs := 0, frameDue := false } } := by
  rw [← free]
  rfl

end

theorem exec_closeStream (s : State) (bus : List BusCycle) : exec (.closeStream bus) s =
    whileReleasedBus s bus fun s => s.takeWith (ofKind .closeStream) (ending State.closeStream) := rfl

theorem StreamDesc.handoverDue_not {d : StreamDesc} (h : d.status ≠ .opened ∨ d.finished = false) : d.handoverDue = false := by
  unfold StreamDesc.handoverDue
  rcases h with waits | unfinished
  · simp [waits]
  · simp [unfinished]

/-- Settles O30: the writes of a close are `closeWrites`, and each ends it where it fails. -/
theorem closeStreamTaken : Obligations.CloseStreamTaken := by
  intro s r hf
  have answers {bus : List BusCycle} {o : OutcomeCode} {d : Octet} {u : State}
      (h : (taken (s.setBus { cycles := bus }) r).closeStream r = (o, d, u)) :
      exec (.closeStream bus) s = .next ((u.endTake r.held o d).setBus {}) := take_answersBus (k := .closeStream) hf (by decide) h
  have refuses {bus : List BusCycle} {o : OutcomeCode} {d : Octet}
      (h : (taken (s.setBus { cycles := bus }) r).closeStream r = (o, d, taken (s.setBus { cycles := bus }) r)) :
      exec (.closeStream bus) s = .next { ended s r o d with bus := {} } := take_refusesBus (k := .closeStream) hf (by decide) h
  refine ⟨fun bus bad => refuses (State.closeStream_noNumber bad), fun n number => ?_⟩
  dsimp only
  refine ⟨fun bus none_ => refuses ?_, fun bus d open_ used => refuses ?_, fun bus d open_ free fault ended_ => ?_,
    fun d open_ free live none_ idle => ?_⟩
  · rw [State.closeStream_number number]
    exact if_pos (Option.isNone_iff_eq_none.2 none_)
  · have some_ : (taken (s.setBus { cycles := bus }) r).streams[n].desc.isNone = false := congrArg Option.isNone open_
    rw [State.closeStream_number number, some_]
    exact if_pos used
  · have notDue := StreamDesc.handoverDue_not (d := d) (.inl (by rw [fault]; decide))
    have closed := State.closeStream_desc (s := taken (s.setBus { cycles := bus }) r) number open_ free ended_ notDue
    rw [State.closeDesc_fault fault, State.freeStream_unreferenced (by exact free)] at closed
    exact (answers closed).trans rfl
  · have notDue := StreamDesc.handoverDue_not idle
    have closed (bus : List BusCycle) :=
      State.closeStream_desc (s := taken (s.setBus { cycles := bus }) r) number open_ free none_ notDue
    refine ⟨d.closeWrites, fun opened short => ?_, fun k opened tap part => ?_, fun waits never => ?_, fun h waits handed => ?_, ?_,
      fun k hk => ?_⟩
    · rw [StreamDesc.closeWrites_opened opened, if_pos short.symm, statusWord1_eq, lastHandedCode_some]
      rfl
    · have whole : d.position - d.position % 4 = 4 * (d.position / 4) := by omega
      have notFeed : d.dir ≠ .feed := by rw [tap]; exact Direction.noConfusion
      rw [StreamDesc.closeWrites_opened opened, if_neg (not_or.2 ⟨part, notFeed⟩), statusWord1_eq, lastHandedCode_some,
        d.halfOffset_eq, whole]
      rfl
    · rw [StreamDesc.closeWrites_waiting waits live, never, statusWord1_eq]
      rfl
    · rw [StreamDesc.closeWrites_waiting waits live, handed, statusWord1_eq, lastHandedCode_some]
      rfl
    · have made := closed []
      rw [State.closeDesc_made live rfl, State.freeStream_unreferenced (by exact free), d.closeWord_eq] at made
      exact (answers made).trans rfl
    · have failed := closed (errorAfter k)
      rcases Nat.lt_or_eq_of_le hk with write | all
      · rw [State.closeDesc_writeFails live rfl write, State.freeStream_unreferenced (by exact free)] at failed
        exact (answers failed).trans rfl
      · subst all
        rw [State.closeDesc_exchangeFails live rfl, State.freeStream_unreferenced (by exact free)] at failed
        rw [List.take_length]
        exact (answers failed).trans rfl

end Sys2Proof.Machine
end

section
/-! PROOFS. A stream at a boundary and at the memory port: its frame work, the handover of a finished half, and the ends of its
accesses. -/

namespace Sys2Proof.Machine

/-! ### The frame work of a stream (06 R112 to R117) -/

theorem State.setBus_streamed (s : State) (n : StreamNo) (b : Bus) : s.setBus b = s.streamed n s.mem b s.streams[n] :=
  ((s.setBus b).streamed_self n).symm

section
variable (s : State) (n : StreamNo) (m : Memory) (b : Bus) {x : Stream} {d : StreamDesc}

theorem State.streamWork_tap {k : SlotIndex} (due : x.frameDue = true) (open_ : x.desc = some d) (tap : d.dir = .tap k) :
    (s.streamed n m b x).streamWork n =
      if d.status = .opened ∧ ¬ d.finished then
        s.streamed n m b { x with desc := some (d.place (s.inboundOctet k)), frameDue := false }
      else if d.status.waits ∧ d.resumeOpen then s.streamed n m b x
      else s.streamed n m b { x with desc := some d, frameDue := false } := by
  obtain ⟨desc, current, refs, frameDue⟩ := x
  cases open_
  unfold State.streamWork
  rw [State.streamed_get, if_pos due]
  dsimp only
  rw [tap]
  dsimp only
  rw [State.tapOctet, State.onDesc_streamed _ _ _ _ rfl, State.frameDone, State.onStream_streamed, State.frameDone,
    State.onStream_streamed]
  rfl

theorem State.streamWork_feed (due : x.frameDue = true) (open_ : x.desc = some d) (feed : d.dir = .feed) :
    (s.streamed n m b x).streamWork n =
      if d.status = .opened ∧ ¬ d.finished then
        s.streamed n m b { x with desc := some d.play, current := d.octetHere, frameDue := false }
      else s.streamed n m b { x with desc := some d, current := idleOctet, frameDue := false } := by
  obtain ⟨desc, current, refs, frameDue⟩ := x
  cases open_
  unfold State.streamWork
  rw [State.streamed_get, if_pos due]
  dsimp only
  rw [feed]
  dsimp only
  rw [State.setCurrent, State.onStream_streamed, State.onDesc_streamed _ _ _ _ rfl,
    State.frameDone, State.onStream_streamed, State.setCurrent, State.onStream_streamed, State.frameDone, State.onStream_streamed]

end

section
variable (d : StreamDesc)

/-- The position after an octet, and whether the half is finished with it (06 R112, R113). -/
def StreamDesc.moved : StreamDesc :=
  { d with position := if d.position + 1 = d.len then 0 else d.position + 1, finished := decide (d.position + 1 = d.len) }

variable {d} (unfinished : d.finished = false)
include unfinished

theorem StreamDesc.place_inWord (o : Octet) (part : (d.position + 1) % 4 ≠ 0) :
    d.place o = { d.moved with buffer := d.buffer ++ [o] } := by
  unfold StreamDesc.place StreamDesc.moved
  dsimp only
  rw [if_neg part]
  split <;> simp_all

theorem StreamDesc.place_endsWord {b0 b1 b2 : Octet} (o : Octet) (whole : (d.position + 1) % 4 = 0) (three : d.buffer = [b0, b1, b2]) :
    d.place o = { d.moved with
      buffer := []
      accesses := d.accesses ++ [.putWord (d.halfOffset d.half + BitVec.ofNat 20 (d.position + 1 - 4)) (o ++ b2 ++ b1 ++ b0)] } := by
  have word : wordOfList idleOctet (d.buffer ++ [o]) = o ++ b2 ++ b1 ++ b0 := by rw [three]; rfl
  unfold StreamDesc.place StreamDesc.moved
  dsimp only
  rw [if_pos whole, word]
  split <;> simp_all [StreamDesc.halfOffset]

omit unfinished in
theorem StreamDesc.play_ends (last : d.position + 1 = d.len) : d.play = { d.moved with buffer := [] } := by
  unfold StreamDesc.play StreamDesc.moved
  simp [last]

theorem StreamDesc.play_nextWord (more : d.position + 1 ≠ d.len) (whole : (d.position + 1) % 4 = 0) : d.play = { d.moved with
    accesses := d.accesses ++ [.getWord (d.halfOffset d.half + BitVec.ofNat 20 (d.position + 1)) ((d.position + 1) / 4)] } := by
  unfold StreamDesc.play StreamDesc.moved
  simp [more, whole, unfinished]

theorem StreamDesc.play_inWord (more : d.position + 1 ≠ d.len) (part : (d.position + 1) % 4 ≠ 0) : d.play = d.moved := by
  unfold StreamDesc.play StreamDesc.moved
  simp [more, part, unfinished]

end

theorem StreamDesc.resumeOpen_iff (d : StreamDesc) :
    d.resumeOpen = true ↔ d.resumeDue = true ∨ StreamAccess.resume false ∈ d.accesses := by
  simp [StreamDesc.resumeOpen]

theorem StreamStatus.waits_iff (status : StreamStatus) : status.waits = true ↔ status ≠ .opened ∧ status ≠ .fault := by
  cases status <;> simp [StreamStatus.waits]

theorem State.inboundOctet_eq (s : State) (k : SlotIndex) : s.inboundOctet k =
    if s.lines[SlotIndex.port k].seen then s.lines[SlotIndex.port k].rx.presented[SlotIndex.slot k] else 0xFF := rfl

/-- Settles O49, by direction and state. -/
theorem streamFrameWork : Obligations.StreamFrameWork := by
  intro s n d hp due open_
  dsimp only
  have works {x : Stream} (h : (s.streamed n s.mem {} s.streams[n]).streamWork n = s.streamed n s.mem {} x) :
      exec (.frameBoundary false [.stream n] []) s = .next { s with bus := {}, streams := s.streams.set n x } := by
    rw [exec_doWork s _ hp, s.setBus_streamed n]
    exact congrArg (fun t : State => Host.Outcome.next (t.setBus {})) h
  refine ⟨fun k tap opened unfinished => ?_, fun k tap opened finished => ?_, ⟨fun k tap waits rests => ?_,
    fun k tap waits live exchanging => ?_⟩, fun feed opened unfinished => ?_, fun feed rests => ?_⟩
  · have work := s.streamWork_tap n s.mem {} due open_ tap
    rw [if_pos ⟨opened, by simp [unfinished]⟩, s.inboundOctet_eq] at work
    refine ⟨fun part => ?_, fun b0 b1 b2 whole three => ?_⟩
    · rw [StreamDesc.place_inWord unfinished _ part] at work
      exact works work
    · rw [StreamDesc.place_endsWord unfinished _ whole three] at work
      exact works work
  · have work := s.streamWork_tap n s.mem {} due open_ tap
    rw [if_neg (by simp [finished]), if_neg (by simp [StreamStatus.waits_iff, opened])] at work
    exact works work
  · have work := s.streamWork_tap n s.mem {} due open_ tap
    rw [if_neg fun places => waits places.1, if_neg fun keeps => ?_] at work
    · exact works work
    · obtain ⟨waiting, exchanges⟩ := keeps
      exact rests.elim (fun fault => ((StreamStatus.waits_iff _).1 waiting).2 fault)
        fun none_ => none_ (d.resumeOpen_iff.1 exchanges)
  · have work := s.streamWork_tap n s.mem {} due open_ tap
    rw [if_neg fun places => waits places.1,
      if_pos ⟨(StreamStatus.waits_iff _).2 ⟨waits, live⟩, d.resumeOpen_iff.2 exchanging⟩] at work
    rw [works work]
    simp
  · have work := s.streamWork_feed n s.mem {} due open_ feed
    rw [if_pos ⟨opened, by simp [unfinished]⟩] at work
    refine ⟨fun last => ?_, fun more whole => ?_, fun more part => ?_⟩
    · rw [StreamDesc.play_ends last] at work
      exact works work
    · rw [StreamDesc.play_nextWord unfinished more whole] at work
      exact works work
    · rw [StreamDesc.play_inWord unfinished more part] at work
      exact works work
  · have work := s.streamWork_feed n s.mem {} due open_ feed
    rw [if_neg fun plays => rests.elim (fun h => h plays.1) fun h => plays.2 h] at work
    exact works work

/-! ### The handover of a finished half (06 R115, R116) -/

theorem StreamDesc.handoverDue_false (d : StreamDesc) :
    d.handoverDue = false ↔ d.status ≠ .opened ∨ d.finished = false ∨ d.accesses ≠ [] := by
  simp only [StreamDesc.handoverDue, Bool.and_eq_false_iff, beq_eq_false_iff_ne, List.isEmpty_eq_false_iff, or_assoc]

theorem StreamDesc.faulted_idle {d : StreamDesc} (none_ : d.accesses = []) :
    d.faulted = { d with status := .fault, finished := false, buffer := [], resumeDue := false } := by
  rw [StreamDesc.faulted, ← none_]

/-- The exchange of a handover, byte by byte. -/
theorem handoverWord_eq (h : Half) (waiting : StreamStatus) (w : Word) : handoverWord h waiting w =
    let word (status flag : Octet) : Word :=
      if h = .a then wordOf 1 (wordByte w 1) status flag else wordOf (wordByte w 0) 1 status flag
    if ownerByte w h.other = 0 then word 1 (wordByte w 3) else word waiting.code 1 := by
  unfold handoverWord
  cases h <;> simp [ownerPart, ownerHost, withOwner, withStatus, withBreak, Half.other, ownerByte, StreamStatus.code]

theorem ownerByte_other (w : Word) (h : Half) : ownerByte w h.other = if h = .a then wordByte w 1 else wordByte w 0 := by
  cases h <;> rfl

section
variable (s : State) (n : StreamNo) (m : Memory) (b : Bus) (x : Stream)

theorem State.missedBoundary_streamed : (s.streamed n m b x).missedBoundary n =
    s.streamed n m b { x with current := if x.frameDue then 0xFF else x.current, frameDue := false } := by
  unfold State.missedBoundary
  rw [State.streamed_get]
  obtain ⟨desc, current, refs, frameDue⟩ := x
  cases frameDue with
  | false => rfl
  | true =>
    rw [if_pos rfl, State.setCurrent, State.onStream_streamed, State.frameDone, State.onStream_streamed]
    rfl

end

/-- The stream in the other half, which is its own (06 R115). -/
def StreamDesc.turnedOn (d : StreamDesc) : StreamDesc :=
  { d with
    lastHanded := some d.half, half := d.half.other, position := 0, buffer := [], finished := false
    accesses := if d.dir = .feed then [.getWord (d.halfOffset d.half.other) 0] else [] }

section
variable {d : StreamDesc} (none_ : d.accesses = []) (opened : d.status = .opened)
include none_ opened

theorem StreamDesc.turnedOn_feed (feed : d.dir = .feed) :
    StreamDesc.readFirst (StreamDesc.turn { d with lastHanded := some d.half } .opened) = d.turnedOn := by
  simp [StreamDesc.turnedOn, StreamDesc.readFirst, StreamDesc.turn, StreamDesc.halfOffset, none_, opened, feed]

theorem StreamDesc.turnedOn_tap (tap : d.dir ≠ .feed) :
    StreamDesc.turn { d with lastHanded := some d.half } .opened = d.turnedOn := by
  simp [StreamDesc.turnedOn, StreamDesc.turn, none_, opened, tap]

end

section
variable (s : State) (n : StreamNo) {x : Stream} {d : StreamDesc}

/-- Memory with word 1 of the status block written by a handover. -/
def State.handedWord (s : State) (d : StreamDesc) : Memory :=
  s.mem.writeWord (s.busAddress (d.block + 4)) (statusWord1 d.len (some d.half))

/-- Memory with the exchange of a handover made. -/
def State.handedOver (s : State) (d : StreamDesc) : Memory :=
  (s.handedWord d).writeWord (s.busAddress d.block)
    (handoverWord d.half d.dir.waiting ((s.handedWord d).readWord (s.busAddress d.block)))

theorem State.handover_wordFails (open_ : x.desc = some d) (due : d.handoverDue = true) :
    (s.streamed n s.mem { cycles := errorAfter 0 } x).handover n = withCause (withCause
      (s.streamed n s.mem {} { x with desc := some { d.faulted with lastHanded := some d.half } }) .stream) .bus := by
  unfold State.handover
  rw [State.streamed_get, open_]
  dsimp only
  rw [if_pos due, State.onDesc_streamed _ _ _ _ open_, State.streamed_word_fails]
  dsimp only
  rw [Bool.not_false, if_pos rfl, State.faultStream_streamed _ _ _ _ rfl]
  rfl

theorem State.handover_exchangeFails (open_ : x.desc = some d) (due : d.handoverDue = true) :
    (s.streamed n s.mem { cycles := errorAfter 1 } x).handover n = withCause (withCause
      (s.streamed n (s.handedWord d) {} { x with desc := some { d.faulted with lastHanded := some d.half } }) .stream) .bus := by
  unfold State.handover
  rw [State.streamed_get, open_]
  dsimp only
  rw [if_pos due, State.onDesc_streamed _ _ _ _ open_, State.streamed_word_before]
  dsimp only
  rw [Bool.not_true, if_neg Bool.false_ne_true, State.streamed_exchange_fails]
  dsimp only
  rw [State.faultStream_streamed _ _ _ _ rfl]
  rfl

theorem State.handover_goesOn (open_ : x.desc = some d) (due : d.handoverDue = true) (none_ : d.accesses = [])
    (opened : d.status = .opened) (own : ownerByte ((s.handedWord d).readWord (s.busAddress d.block)) d.half.other = 0) :
    (s.streamed n s.mem {} x).handover n = (s.streamed n (s.handedOver d) {} { x with
      desc := some d.turnedOn, current := if x.frameDue then 0xFF else x.current, frameDue := false }).raiseIf d.notify .stream := by
  unfold State.handover
  rw [State.streamed_get, open_]
  dsimp only
  rw [if_pos due, State.onDesc_streamed _ _ _ _ open_, State.streamed_word]
  dsimp only
  rw [Bool.not_true, if_neg Bool.false_ne_true, State.streamed_exchange]
  dsimp only
  rw [if_pos (by exact own), State.onDesc_streamed _ _ _ _ rfl]
  by_cases feed : d.dir = .feed
  · rw [if_pos (by exact feed), State.onDesc_streamed _ _ _ _ rfl, StreamDesc.turnedOn_feed none_ opened feed,
      State.missedBoundary_streamed]
    rfl
  · rw [if_neg (by exact feed), StreamDesc.turnedOn_tap none_ opened feed, State.missedBoundary_streamed]
    rfl

theorem State.handover_waits (open_ : x.desc = some d) (due : d.handoverDue = true)
    (other : ownerByte ((s.handedWord d).readWord (s.busAddress d.block)) d.half.other ≠ 0) :
    (s.streamed n s.mem {} x).handover n = withCause (s.streamed n (s.handedOver d) {} { x with
      desc := some { d.turnedOn with status := d.dir.waiting, accesses := d.accesses }
      current := if x.frameDue then 0xFF else x.current, frameDue := false }) .stream := by
  unfold State.handover
  rw [State.streamed_get, open_]
  dsimp only
  rw [if_pos due, State.onDesc_streamed _ _ _ _ open_, State.streamed_word]
  dsimp only
  rw [Bool.not_true, if_neg Bool.false_ne_true, State.streamed_exchange]
  dsimp only
  rw [if_neg (by exact other), State.onDesc_streamed _ _ _ _ rfl, State.missedBoundary_streamed]
  rfl

end

/-- Settles O50. -/
theorem handoverServed : Obligations.HandoverServed := by
  refine ⟨⟨rfl, rfl, rfl, rfl⟩, fun s n d hp open_ opened finished none_ => ?_, fun s n d bus hp open_ not_ => ?_⟩
  · dsimp only
    have due : d.handoverDue = true := by simp [StreamDesc.handoverDue, opened, finished, none_]
    have runs {bus : List BusCycle} {t : State} (h : (s.streamed n s.mem { cycles := bus } s.streams[n]).handover n = t) :
        exec (.handover n bus) s = .next (t.setBus {}) := by
      rw [← h, ← s.setBus_streamed n]
      exact whileReleasedBus_next s bus (fun s => s.handover n) hp
    have word1 : s.handedWord d = s.mem.writeWord (s.busAddress (d.block + 4))
        (wordOf (BitVec.ofNat 8 d.len) (BitVec.ofNat 8 (d.len / 256)) (if d.half = .a then 0 else 1) 0) := by
      rw [State.handedWord, statusWord1_eq, lastHandedCode_some]
    rw [← ownerByte_other, ← word1, ← Direction.waiting_eq]
    have word0 := handoverWord_eq d.half d.dir.waiting ((s.handedWord d).readWord (s.busAddress d.block))
    refine ⟨fun own => ?_, fun other => ?_, ?_, ?_⟩
    · rw [runs (s.handover_goesOn n open_ due none_ opened own)]
      rw [if_pos own] at word0
      unfold State.handedOver
      rw [word0]
      rw [State.raiseIf_eq]
      by_cases notify : d.notify = true
      · rw [if_pos notify, if_pos notify]
        rfl
      · rw [if_neg notify, if_neg notify]
        rfl
    · rw [runs (s.handover_waits n open_ due other)]
      rw [if_neg other] at word0
      unfold State.handedOver
      rw [word0]
      rfl
    · rw [runs (s.handover_wordFails n open_ due), StreamDesc.faulted_idle none_]
      rfl
    · rw [runs (s.handover_exchangeFails n open_ due), StreamDesc.faulted_idle none_]
      rfl
  · have stays : (s.setBus { cycles := bus }).handover n = s.setBus { cycles := bus } :=
      State.handover_notDue (by exact open_) (d.handoverDue_false.2 not_)
    refine (whileReleasedBus_next s bus (fun s => s.handover n) hp).trans ?_
    exact (congrArg (fun t : State => Host.Outcome.next (t.setBus {})) stays).trans rfl

end Sys2Proof.Machine
end

section
/-! PROOFS. The ends of a stream's accesses: a word, the exchange of a block boundary on any bus, and the block boundary that issues
the exchange. -/

namespace Sys2Proof.Machine

/-! ### An exchange of a waiting stream (06 R117) -/

/-- What a bus answers to the next access: whether it is good, and the memory and the bus after it. -/
def busAnswer (m : Memory) (b : Bus) : Bool × Memory × Bus :=
  match b.cycles with
  | [] => (!b.cut, m, b)
  | c :: cs => (!c.error, m.stores c.host, { b with cycles := cs })

theorem busAnswer_quiet (m : Memory) : busAnswer m {} = (true, m, {}) := rfl

theorem busAnswer_fails (m : Memory) : busAnswer m { cycles := errorAfter 0 } = (false, m, {}) := rfl

/-- A stream that its exchange opens again in the half it awaited. -/
def State.resumedStream (u : State) (x : Stream) (d : StreamDesc) (late : Bool) : Stream :=
  match d.dir with
  | .tap k => { x with
      desc := some (if x.frameDue ∧ ¬ late then d.resumed.place (u.inboundOctet k) else d.resumed), frameDue := false }
  | .feed => { x with desc := some d.resumed.readFirst, current := idleOctet, frameDue := false }

/-- The end of an exchange that the bus has answered. -/
def State.exchangeEnds (u : State) (n : StreamNo) (x : Stream) (d : StreamDesc) (late : Bool) (p : Bool × Memory × Bus) : State :=
  if p.1 then
    u.streamed n (p.2.1.writeWord (u.busAddress d.block) (d.resumeWord (p.2.1.readWord (u.busAddress d.block)))) p.2.2
      (if d.resumes (p.2.1.readWord (u.busAddress d.block)) then u.resumedStream x d late else { x with desc := some d })
  else withCause (withCause (u.streamed n p.2.1 p.2.2 { x with desc := some d.faulted }) .stream) .bus

section
variable (s : State) (n : StreamNo) (m : Memory) (b : Bus) (x : Stream)

theorem State.busCycle_streamed : (s.streamed n m b x).busCycle =
    ((busAnswer m b).1, s.streamed n (busAnswer m b).2.1 (busAnswer m b).2.2 x) := by
  obtain ⟨cycles, cut⟩ := b
  cases cycles <;> rfl

theorem State.exchange_streamed (off : Offset) (f : Word → Word) : (s.streamed n m b x).exchange off f =
    (let p := busAnswer m b
     let w := p.2.1.readWord (s.busAddress off)
     if p.1 then (some w, s.streamed n (p.2.1.writeWord (s.busAddress off) (f w)) p.2.2 x)
     else (none, s.streamed n p.2.1 p.2.2 x)) := by
  have cycle := s.busCycle_streamed n m b x
  generalize busAnswer m b = p at cycle ⊢
  obtain ⟨good, m', b'⟩ := p
  cases good with
  | true => exact State.exchange_good cycle off f
  | false => exact State.exchange_failed cycle off f

variable {x} {d : StreamDesc}

/-- A TAP resumes. -/
theorem State.resume_tap {k : SlotIndex} (open_ : x.desc = some d) (tap : d.dir = .tap k) (late : Bool) :
    (let t := (s.streamed n m b x).onDesc n StreamDesc.resumed
     (if t.streams[n].frameDue ∧ ¬ late then t.tapOctet n k else t).frameDone n) =
      s.streamed n m b (s.resumedStream x d late) := by
  dsimp only
  rw [State.onDesc_streamed _ _ _ _ open_, State.streamed_get, State.tapOctet, State.onDesc_streamed _ _ _ _ rfl]
  unfold State.resumedStream
  rw [tap]
  dsimp only
  split
  · exact State.onStream_streamed _ _ _ _ _ _
  · exact State.onStream_streamed _ _ _ _ _ _

/-- A FEED resumes. -/
theorem State.resume_feed (open_ : x.desc = some d) (feed : d.dir = .feed) (late : Bool) :
    (((((s.streamed n m b x).onDesc n StreamDesc.resumed).onDesc n StreamDesc.readFirst).setCurrent n idleOctet).frameDone n) =
      s.streamed n m b (s.resumedStream x d late) := by
  rw [State.onDesc_streamed _ _ _ _ open_, State.onDesc_streamed _ _ _ _ rfl, State.setCurrent, State.onStream_streamed,
    State.frameDone, State.onStream_streamed]
  unfold State.resumedStream
  rw [feed]

/-- The exchange ends; the accesses after it stay issued. -/
theorem State.resumeExchange_streamed {rest : List StreamAccess} (open_ : x.desc = some { d with accesses := rest }) (late : Bool) :
    (s.streamed n m b x).resumeExchange n d late = s.exchangeEnds n x { d with accesses := rest } late (busAnswer m b) := by
  unfold State.resumeExchange State.exchangeEnds
  rw [State.exchange_streamed]
  generalize busAnswer m b = p
  obtain ⟨good, m', b'⟩ := p
  cases good with
  | false => exact State.faultStream_streamed _ _ _ _ open_ _
  | true =>
    dsimp only
    rw [if_pos rfl, if_pos rfl]
    dsimp only
    cases wakes : d.resumes (m'.readWord (s.busAddress d.block)) with
    | false =>
      rw [if_neg Bool.false_ne_true, if_neg (by exact Bool.eq_false_iff.1 wakes), ← open_]
      rfl
    | true =>
      rw [if_pos rfl, if_pos (by exact wakes)]
      split
      · next k way => exact State.resume_tap _ _ _ _ open_ way late
      · next way => exact State.resume_feed _ _ _ _ open_ way late

/-- The oldest access is an exchange: it ends as the bus answers. -/
theorem State.completeAccess_resume {late : Bool} {rest : List StreamAccess} (open_ : x.desc = some d)
    (oldest : d.accesses = .resume late :: rest) :
    (s.streamed n m b x).completeAccess n = s.exchangeEnds n x { d with accesses := rest } late (busAnswer m b) := by
  unfold State.completeAccess
  rw [State.streamed_get, open_]
  dsimp only
  rw [oldest]
  dsimp only
  rw [State.onDesc_streamed _ _ _ _ open_, State.resumeExchange_streamed _ _ _ _ rfl]
  rfl

theorem State.completeAccess_put {off : Offset} {v : Word} {rest : List StreamAccess} (open_ : x.desc = some d)
    (oldest : d.accesses = .putWord off v :: rest) : (s.streamed n m {} x).completeAccess n =
      s.streamed n (m.writeWord (s.busAddress off) v) {} { x with desc := some { d with accesses := rest } } := by
  unfold State.completeAccess
  rw [State.streamed_get, open_]
  dsimp only
  rw [oldest]
  dsimp only
  rw [State.onDesc_streamed _ _ _ _ open_, State.streamed_word]
  rfl

theorem State.completeAccess_get {off : Offset} {i : Nat} {rest : List StreamAccess} (open_ : x.desc = some d)
    (oldest : d.accesses = .getWord off i :: rest) : (s.streamed n m {} x).completeAccess n =
      s.streamed n m {} { x with desc := some { d with
        accesses := rest, bufferWord := i, buffer := octetsOf (m.readWord (s.busAddress off)) } } := by
  unfold State.completeAccess
  rw [State.streamed_get, open_]
  dsimp only
  rw [oldest]
  dsimp only
  rw [State.onDesc_streamed _ _ _ _ open_, State.readWord_good (State.busCycle_quiet _ rfl)]
  dsimp only
  rw [State.onDesc_streamed _ _ _ _ rfl]
  rfl

/-- A word access fails: the stream is in FAULT, and one exchange writes the state (06 R122). -/
theorem State.faultStream_word {e : StreamDesc} (open_ : x.desc = some e) :
    (s.streamed n m {} x).faultStream n d false = withCause (withCause (s.streamed n
      (m.writeWord (s.busAddress d.block) (withStatus 5 (m.readWord (s.busAddress d.block)))) {}
      { x with desc := some e.faulted }) .stream) .bus := by
  unfold State.faultStream
  dsimp only
  rw [State.onDesc_streamed _ _ _ _ open_, if_neg Bool.false_ne_true, State.streamed_exchange]
  rfl

theorem State.completeAccess_wordFails {a : StreamAccess} {rest : List StreamAccess} (open_ : x.desc = some d)
    (oldest : d.accesses = a :: rest) (word : (∃ off v, a = .putWord off v) ∨ ∃ off i, a = .getWord off i) :
    (s.streamed n m { cycles := errorAfter 0 } x).completeAccess n = withCause (withCause (s.streamed n
      (m.writeWord (s.busAddress d.block) (withStatus 5 (m.readWord (s.busAddress d.block)))) {}
      { x with desc := some d.faulted }) .stream) .bus := by
  unfold State.completeAccess
  rw [State.streamed_get, open_]
  dsimp only
  rw [oldest]
  dsimp only
  rw [State.onDesc_streamed _ _ _ _ open_]
  rcases word with ⟨off, v, rfl⟩ | ⟨off, i, rfl⟩
  · dsimp only
    rw [State.streamed_word_fails]
    dsimp only
    rw [if_neg Bool.false_ne_true, State.faultStream_word _ _ _ rfl]
    rfl
  · dsimp only
    rw [State.readWord_failed (State.busCycle_fails rfl)]
    refine (State.faultStream_word s n m rfl).trans ?_
    rfl

/-- An access ends at once unless a FEED's frame work is to come before it (06 R113). -/
theorem State.endAccess_direct (s : State) (n : StreamNo) (h : ∀ d, s.streams[n].desc = some d → d.dir ≠ .feed ∨ s.streams[n].frameDue = false) :
    s.endAccess n = s.completeAccess n := by
  unfold State.endAccess
  split
  · next none_ => rw [State.completeAccess, none_]
  · next d open_ =>
    split
    · next feeds =>
      have done : s.streamWork n = s := by
        unfold State.streamWork
        rw [(h d open_).resolve_left (not_not.2 feeds.1)]
        rfl
      rw [done]
    · rfl

end

/-! ### The exchange of a block boundary is issued (06 R117) -/

section
variable (s : State) (n : StreamNo) (m : Memory) (b : Bus) (late : List StreamNo) {x : Stream} {d : StreamDesc}

/-- A stream whose exchange is not due is left as it is. -/
theorem State.blockStream_notDue (h : ∀ e, s.streams[n].desc = some e → e.resumeDue = false) : s.blockStream late n = s := by
  unfold State.blockStream
  split
  · rfl
  · next d open_ =>
    rw [h d open_]
    rfl

theorem StreamDesc.issueResume_waiting (due : d.resumeDue = true) (waits : d.status.waits = true) :
    d.issueResume = { d with resumeDue := false, accesses := d.accesses ++ [.resume false] } := by
  rw [StreamDesc.issueResume, if_pos due, if_pos waits]

theorem StreamDesc.issueResume_alone (due : d.resumeDue = true) (waits : d.status.waits = true) (none_ : d.accesses = []) :
    d.issueResume.accesses = [.resume false] ∧
      { d.issueResume with accesses := [] } = { d with resumeDue := false, accesses := [] } := by
  rw [StreamDesc.issueResume_waiting due waits, none_]
  exact ⟨rfl, rfl⟩

theorem StreamDesc.issueResume_running (due : d.resumeDue = true) (runs : d.status.waits = false) :
    d.issueResume = { d with resumeDue := false } := by
  rw [StreamDesc.issueResume, if_pos due, runs]
  rfl

/-- The exchange is issued, and ends later. -/
theorem State.blockStream_later (open_ : x.desc = some d) (due : d.resumeDue = true) (later : n ∈ late ∨ d.accesses ≠ []) :
    (s.streamed n m b x).blockStream late n = s.streamed n m b { x with desc := some d.issueResume } := by
  unfold State.blockStream
  rw [State.streamed_get, open_]
  dsimp only
  rw [if_pos due, if_pos (by rwa [List.contains_iff_mem]), State.onDesc_streamed _ _ _ _ open_]

/-- The exchange is issued, and ends at the boundary. -/
theorem State.blockStream_now (open_ : x.desc = some d) (due : d.resumeDue = true) (now : n ∉ late) (none_ : d.accesses = [])
    (waits : d.status.waits = true) : (s.streamed n m b x).blockStream late n =
      s.exchangeEnds n { x with desc := some d.issueResume } { d with resumeDue := false, accesses := [] } false (busAnswer m b) := by
  have issued := StreamDesc.issueResume_waiting due waits
  rw [none_] at issued
  unfold State.blockStream
  rw [State.streamed_get, open_]
  dsimp only
  rw [if_pos due, if_neg (by simp [now, none_]), State.onDesc_streamed _ _ _ _ open_,
    State.completeAccess_resume _ _ _ _ rfl (congrArg StreamDesc.accesses issued), issued]

/-- A stream that does not wait issues nothing. -/
theorem State.blockStream_runs (open_ : x.desc = some d) (due : d.resumeDue = true) (none_ : d.accesses = [])
    (runs : d.status.waits = false) :
    (s.streamed n m b x).blockStream late n = s.streamed n m b { x with desc := some d.issueResume } := by
  have issued := StreamDesc.issueResume_running due runs
  have empty : ∀ y : Stream, y.desc = some d.issueResume → (s.streamed n m b y).completeAccess n = s.streamed n m b y := by
    intro y h
    unfold State.completeAccess
    rw [State.streamed_get, h, issued]
    dsimp only
    rw [none_]
  unfold State.blockStream
  rw [State.streamed_get, open_]
  dsimp only
  rw [if_pos due, State.onDesc_streamed _ _ _ _ open_, empty _ rfl, ite_self]

theorem State.streamed_other {i : StreamNo} (h : i ≠ n) : (s.streamed n m b x).streams[i] = s.streams[i] :=
  Vector.get_set_other _ _ h

theorem State.exchangeEnds_other {i : StreamNo} (h : i ≠ n) (l : Bool) (p : Bool × Memory × Bus) :
    (s.exchangeEnds n x d l p).streams[i] = s.streams[i] := by
  unfold State.exchangeEnds
  split
  · exact State.streamed_other _ _ _ _ h
  · exact State.streamed_other s n p.2.1 p.2.2 h

/-- The exchange of one stream touches no other. -/
theorem State.blockStream_other {i : StreamNo} (h : i ≠ n) : (s.blockStream late n).streams[i] = s.streams[i] := by
  cases open_ : s.streams[n].desc with
  | none => rw [State.blockStream_notDue _ _ _ fun e he => by rw [open_] at he; cases he]
  | some d =>
    cases due : d.resumeDue with
    | false => rw [State.blockStream_notDue _ _ _ fun e he => by rw [open_] at he; cases he; exact due]
    | true =>
      rw [← s.streamed_self n]
      by_cases later : n ∈ late ∨ d.accesses ≠ []
      · rw [State.blockStream_later _ _ _ _ _ open_ due later, State.streamed_other _ _ _ _ h, State.streamed_other _ _ _ _ h]
      · obtain ⟨now, none_⟩ := not_or.1 later
        cases waits : d.status.waits with
        | true => rw [State.blockStream_now _ _ _ _ _ open_ due now (not_not.1 none_) waits, State.exchangeEnds_other _ _ h,
            State.streamed_other _ _ _ _ h]
        | false => rw [State.blockStream_runs _ _ _ _ _ open_ due (not_not.1 none_) waits, State.streamed_other _ _ _ _ h,
            State.streamed_other _ _ _ _ h]

theorem State.blockStreams_other {l : List StreamNo} (h : n ∉ l) :
    (l.foldl (fun s n => s.blockStream late n) s).streams[n] = s.streams[n] := by
  induction l generalizing s with
  | nil => rfl
  | cons i l ih =>
    rw [List.mem_cons, not_or] at h
    obtain ⟨first, rest⟩ := h
    rw [List.foldl_cons, ih _ rest, State.blockStream_other _ _ _ first]

theorem State.blockStreams_notDue {l : List StreamNo} (h : ∀ i ∈ l, ∀ e, s.streams[i].desc = some e → e.resumeDue = false) :
    l.foldl (fun s n => s.blockStream late n) s = s := by
  induction l with
  | nil => rfl
  | cons i l ih =>
    obtain ⟨first, rest⟩ := List.forall_mem_cons.1 h
    rw [List.foldl_cons, State.blockStream_notDue _ _ _ first, ih rest]

/-- The streams before and after one of them. -/
theorem allStreams_split : ∃ before after, allStreams = before ++ n :: after ∧ n ∉ before ∧ n ∉ after := by
  have mem : n ∈ allStreams := by revert n; decide
  have nodup : allStreams.Nodup := by decide
  obtain ⟨before, after, split⟩ := List.append_of_mem mem
  rw [split, List.nodup_middle, List.nodup_cons, List.mem_append, not_or] at nodup
  exact ⟨before, after, split, nodup.1⟩

/-- What the block boundary makes of one stream. -/
theorem State.blockStreams_get : ∃ v : State, v.streams[n] = s.streams[n] ∧
    (allStreams.foldl (fun s n => s.blockStream late n) s).streams[n] = (v.blockStream late n).streams[n] := by
  obtain ⟨before, after, split, first, last⟩ := allStreams_split n
  refine ⟨before.foldl (fun s n => s.blockStream late n) s, State.blockStreams_other _ _ _ first, ?_⟩
  rw [split, List.foldl_append, List.foldl_cons, State.blockStreams_other _ _ _ last]

/-- The block boundary where no other stream has an exchange due. -/
theorem State.blockStreams_one (others : ∀ i ≠ n, ∀ e, s.streams[i].desc = some e → e.resumeDue = false) :
    allStreams.foldl (fun s n => s.blockStream late n) s = s.blockStream late n := by
  obtain ⟨before, after, split, first, last⟩ := allStreams_split n
  rw [split, List.foldl_append, List.foldl_cons, State.blockStreams_notDue s _ fun i hi => others i fun same => first (same ▸ hi),
    State.blockStreams_notDue]
  · intro i hi e he
    have other : i ≠ n := fun same => last (same ▸ hi)
    rw [State.blockStream_other _ _ _ other] at he
    exact others i other e he

/-- The rest of a block boundary, after the streams: PROBE timeouts and RESET_OUT (08 R158, 09 R170). -/
def State.blockRest (s : State) : State := s.tickProbes.onSupervision Supervision.tickReset

theorem State.blockRest_streamed : (s.streamed n m b x).blockRest = s.blockRest.streamed n m b x := rfl

theorem State.blockRest_exchangeEnds (l : Bool) (p : Bool × Memory × Bus) :
    (s.exchangeEnds n x d l p).blockRest = s.blockRest.exchangeEnds n x d l p := by
  unfold State.exchangeEnds
  cases p.1 <;> rfl

/-- The monitor's part of a block boundary, before the streams. -/
def State.blockBegun (s : State) : State := (s.onTimer fun t => { t with blockDue := false }).activityBlock

theorem State.blockWork_due (due : s.timer.blockDue = true) : s.blockWork late =
    (allStreams.foldl (fun s n => s.blockStream late n) s.blockBegun).blockRest := if_pos due

theorem State.raiseIf_setBus (w : Bool) (c : Cause) : (s.setBus b).raiseIf w c = (s.raiseIf w c).setBus b := by
  cases w <;> rfl

theorem State.classify_setBus : (s.setBus b).classify = s.classify.setBus b := by
  unfold State.classify
  by_cases due : s.activity.classifyDue = true
  · rw [if_pos (by exact due), if_pos due]
    dsimp only
    rw [← State.raiseIf_setBus]
    rfl
  · rw [if_neg (by exact due), if_neg due]

theorem State.judgeWork_setBus : (s.setBus b).judgeWork = s.judgeWork.setBus b := by
  unfold State.judgeWork
  by_cases due : s.activity.judgeDue = true ∧ ¬ s.activity.classifyDue = true
  · rw [if_pos (by exact due), if_pos due]
    rfl
  · rw [if_neg (by exact due), if_neg due]

theorem State.blockBegun_setBus : (s.setBus b).blockBegun = s.blockBegun.setBus b := by
  have classified := State.classify_setBus (s.onTimer fun t => { t with blockDue := false }) b
  unfold State.blockBegun State.activityBlock
  rw [← State.judgeWork_setBus, ← classified]
  rfl

/-- The same streams and memory, the same base, and PORESET alike. -/
def State.StreamsAlike (s t : State) : Prop :=
  t.streams = s.streams ∧ t.mem = s.mem ∧ t.regs.areaBase = s.regs.areaBase ∧ t.regs.poreset = s.regs.poreset

theorem State.StreamsAlike.trans {s t u : State} (h : s.StreamsAlike t) (k : t.StreamsAlike u) : s.StreamsAlike u := by
  obtain ⟨streams, mem, base, held⟩ := h
  obtain ⟨streams', mem', base', held'⟩ := k
  exact ⟨streams'.trans streams, mem'.trans mem, base'.trans base, held'.trans held⟩

theorem State.StreamsAlike.busAddress {s t : State} (h : s.StreamsAlike t) : t.busAddress = s.busAddress := by
  funext off
  rw [State.busAddress, h.2.2.1]
  rfl

theorem State.judgeWork_alike : s.StreamsAlike s.judgeWork := by
  unfold State.judgeWork
  split <;> exact ⟨rfl, rfl, rfl, rfl⟩

theorem State.classify_alike : s.StreamsAlike s.classify := by
  unfold State.classify
  split
  · dsimp only
    rw [State.raiseIf_eq]
    split <;> exact ⟨rfl, rfl, rfl, rfl⟩
  · exact ⟨rfl, rfl, rfl, rfl⟩

theorem State.blockBegun_alike : s.StreamsAlike s.blockBegun :=
  (State.classify_alike (s.onTimer fun t => { t with blockDue := false })).trans (State.judgeWork_alike _)

end

/-- The frame work of a FEED settles the stream, whatever the bus. -/
theorem State.streamWork_settles (s : State) (n : StreamNo) {d : StreamDesc} (open_ : s.streams[n].desc = some d)
    (due : s.streams[n].frameDue = true) (feed : d.dir = .feed) :
    ∃ y : Stream, y.frameDue = false ∧ ∀ b, (s.setBus b).streamWork n = s.streamed n s.mem b y := by
  by_cases plays : d.status = .opened ∧ ¬ d.finished = true
  · refine ⟨{ s.streams[n] with desc := some d.play, current := d.octetHere, frameDue := false }, rfl, fun b => ?_⟩
    rw [s.setBus_streamed n, State.streamWork_feed _ _ _ _ due open_ feed, if_pos plays]
  · refine ⟨{ s.streams[n] with desc := some d, current := idleOctet, frameDue := false }, rfl, fun b => ?_⟩
    rw [s.setBus_streamed n, State.streamWork_feed _ _ _ _ due open_ feed, if_neg plays]

theorem State.endAccess_feed {s : State} {n : StreamNo} {d : StreamDesc} (open_ : s.streams[n].desc = some d)
    (feed : d.dir = .feed) (some_ : d.accesses ≠ []) : s.endAccess n = (s.streamWork n).completeAccess n := by
  unfold State.endAccess
  rw [open_]
  exact if_pos ⟨feed, some_⟩

theorem State.setBus_streamedBus (s : State) (n : StreamNo) (m : Memory) (b c : Bus) (x : Stream) :
    (s.streamed n m b x).setBus c = s.streamed n m c x := rfl

theorem exec_blockBoundary (s : State) (late : List StreamNo) (bus : List BusCycle) (hp : s.regs.poreset = false) :
    exec (.blockBoundary late bus) s = .next (((s.setBus { cycles := bus }).blockWork late).setBus {}) :=
  whileReleasedBus_next s bus (fun s => s.blockWork late) hp

theorem State.blockRest_streams (s : State) (b : Bus) : (s.blockRest.setBus b).streams = s.streams := rfl

/-- A block boundary that is due. -/
theorem exec_blockBoundary_due (s : State) (late : List StreamNo) (bus : List BusCycle) (hp : s.regs.poreset = false)
    (due : s.timer.blockDue = true) : exec (.blockBoundary late bus) s = .next
      ((allStreams.foldl (fun s n => s.blockStream late n) (s.blockBegun.setBus { cycles := bus })).blockRest.setBus {}) := by
  rw [exec_blockBoundary s late bus hp, State.blockWork_due (s.setBus { cycles := bus }) late due, State.blockBegun_setBus]

/-- A block boundary at which one stream alone has an exchange due. -/
theorem exec_blockBoundary_one {s : State} {n : StreamNo} (late : List StreamNo) (bus : List BusCycle) (hp : s.regs.poreset = false)
    (due : s.timer.blockDue = true) (others : ∀ i ≠ n, ∀ e, s.streams[i].desc = some e → e.resumeDue = false) :
    exec (.blockBoundary late bus) s = .next
      (((s.blockBegun.streamed n s.mem { cycles := bus } s.streams[n]).blockStream late n).blockRest.setBus {}) := by
  obtain ⟨streams, mem, -, -⟩ := s.blockBegun_alike
  rw [exec_blockBoundary_due s late bus hp due, State.blockStreams_one _ n,
    s.blockBegun.setBus_streamed n, mem, streams]
  intro i other e he
  exact others i other e ((congrArg (fun v : Vector Stream 16 => v[i].desc) streams).symm.trans he)

theorem exec_streamAccessCompletion (s : State) (n : StreamNo) (bus : List BusCycle) (hp : s.regs.poreset = false) :
    exec (.streamAccessCompletion n bus) s = .next (((s.setBus { cycles := bus }).endAccess n).setBus {}) :=
  whileReleasedBus_next s bus (fun s => s.endAccess n) hp

/-- The end of an exchange that comes before no frame work. -/
theorem exec_access_resume {u : State} {n : StreamNo} {m : Memory} {b : Bus} {x : Stream} {d : StreamDesc} {late : Bool}
    {rest : List StreamAccess} (hp : u.regs.poreset = false) (open_ : x.desc = some d) (oldest : d.accesses = .resume late :: rest)
    (direct : d.dir ≠ .feed) (bus : List BusCycle) : exec (.streamAccessCompletion n bus) (u.streamed n m b x) =
      .next ((u.exchangeEnds n x { d with accesses := rest } late (busAnswer m { cycles := bus })).setBus {}) := by
  have ends := exec_streamAccessCompletion (u.streamed n m b x) n bus hp
  rw [State.setBus_streamedBus, State.endAccess_direct, State.completeAccess_resume _ _ _ _ open_ oldest] at ends
  · exact ends
  · intro e he
    rw [State.streamed_get, open_] at he
    cases he
    exact .inl direct

section
variable (s : State) (x : Stream) {d : StreamDesc} {late : Bool}

theorem State.resumedStream_feed (feed : d.dir = .feed) : s.resumedStream x d late =
    { x with desc := some d.resumed.readFirst, current := idleOctet, frameDue := false } := by
  unfold State.resumedStream
  rw [feed]

theorem State.resumedStream_feedSettled (feed : d.dir = .feed) (settled : x.frameDue = false) : s.resumedStream x d late =
    { x with desc := some d.resumed.readFirst, current := idleOctet } := by
  rw [State.resumedStream_feed _ _ feed, ← settled]

theorem State.resumedStream_tapKeeps {k : SlotIndex} (tap : d.dir = .tap k) (early : x.frameDue = false ∨ late = true) :
    s.resumedStream x d late = { x with desc := some d.resumed, frameDue := false } := by
  unfold State.resumedStream
  rw [tap]
  dsimp only
  rw [if_neg]
  exact fun h => early.elim (fun none_ => by rw [none_] at h; exact Bool.false_ne_true h.1) h.2

theorem State.resumedStream_tapPlaces {k : SlotIndex} (tap : d.dir = .tap k) (due : x.frameDue = true) (inTime : late = false)
    (long : 8 ≤ d.len) : s.resumedStream x d late =
      { x with desc := some { d.resumed with buffer := [s.inboundOctet k], position := 1 }, frameDue := false } := by
  have placed : d.resumed.place (s.inboundOctet k) = { d.resumed with buffer := [s.inboundOctet k], position := 1 } := by
    have more : ¬ (1 = d.len) := by omega
    have inWord : (d.resumed.position + 1) % 4 ≠ 0 := by simp [StreamDesc.resumed]
    rw [StreamDesc.place_inWord rfl _ inWord]
    simp [StreamDesc.moved, StreamDesc.resumed, more]
  unfold State.resumedStream
  rw [tap]
  dsimp only
  rw [if_pos ⟨due, by simp [inTime]⟩, placed]

end

/-! ### A FEED that waits: frame work and exchange in either order (06 R114, R117) -/

/-- A waiting FEED after its frame work. -/
def Stream.rested (x : Stream) : Stream :=
  { x with current := if x.frameDue then idleOctet else x.current, frameDue := false }

section
variable (s : State) (n : StreamNo) (m : Memory) (b : Bus) {x : Stream} {d : StreamDesc}

theorem State.streamWork_rests (open_ : x.desc = some d) (feed : d.dir = .feed) (waits : d.status ≠ .opened) :
    (s.streamed n m b x).streamWork n = s.streamed n m b x.rested := by
  cases due : x.frameDue with
  | true =>
    rw [State.streamWork_feed _ _ _ _ due open_ feed, if_neg fun plays => waits plays.1, ← open_, Stream.rested, due]
    rfl
  | false =>
    have rested : x.rested = x := by
      unfold Stream.rested
      rw [due, if_neg Bool.false_ne_true, ← due]
    unfold State.streamWork
    rw [State.streamed_get, due, rested]
    rfl

theorem State.streamWork_done (done : x.frameDue = false) : (s.streamed n m b x).streamWork n = s.streamed n m b x := by
  unfold State.streamWork
  rw [State.streamed_get, done]
  rfl

theorem State.exchangeEnds_setBus (late : Bool) (p : Bool × Memory × Bus) (c : Bus) :
    (s.exchangeEnds n x d late p).setBus c = s.exchangeEnds n x d late (p.1, p.2.1, c) := by
  unfold State.exchangeEnds
  cases p.1 <;> rfl

theorem State.exchangeEnds_poreset (s : State) (n : StreamNo) (x : Stream) (d : StreamDesc) (late : Bool)
    (p : Bool × Memory × Bus) : (s.exchangeEnds n x d late p).regs.poreset = s.regs.poreset := by
  unfold State.exchangeEnds
  cases p.1 <;> rfl

/-- The frame work after the exchange leaves what it leaves before it. -/
theorem State.exchangeEnds_streamWork (feed : d.dir = .feed) (waits : d.status ≠ .opened) (late : Bool) (p : Bool × Memory × Bus) :
    (s.exchangeEnds n x d late p).streamWork n = s.exchangeEnds n x.rested d late p := by
  obtain ⟨good, m', b'⟩ := p
  unfold State.exchangeEnds
  cases good with
  | false =>
    exact State.streamWork_rests (withCause (withCause s .stream) .bus) n m' b' (x := { x with desc := some d.faulted }) rfl feed
      (by unfold StreamDesc.faulted; exact StreamStatus.noConfusion)
  | true =>
    rw [if_pos rfl, if_pos rfl]
    cases d.resumes (m'.readWord (s.busAddress d.block)) with
    | true =>
      rw [if_pos rfl, if_pos rfl, State.resumedStream_feed _ _ feed, State.resumedStream_feed _ _ feed]
      exact State.streamWork_done _ _ _ _ rfl
    | false => exact State.streamWork_rests s n _ b' (x := { x with desc := some d }) rfl feed waits

end

/-- A waiting FEED: the exchange before the frame work leaves what the frame work before the exchange leaves. -/
theorem exec_feed_order {u : State} {n : StreamNo} {m : Memory} {x : Stream} {d : StreamDesc} {late : Bool}
    {rest : List StreamAccess} (hp : u.regs.poreset = false) (open_ : x.desc = some d) (oldest : d.accesses = .resume late :: rest)
    (feed : d.dir = .feed) (waits : d.status ≠ .opened) (bus : List BusCycle) :
    exec (.frameBoundary false [.stream n] [])
        ((u.exchangeEnds n x { d with accesses := rest } late (busAnswer m { cycles := bus })).setBus {}) =
      exec (.streamAccessCompletion n bus) (u.streamed n m {} x) := by
  have some_ : d.accesses ≠ [] := by rw [oldest]; exact List.cons_ne_nil _ _
  have first := exec_streamAccessCompletion (u.streamed n m {} x) n bus hp
  rw [State.setBus_streamedBus, State.endAccess_feed ((congrArg Stream.desc (u.streamed_get n m _ x)).trans open_) feed some_,
    State.streamWork_rests _ _ _ _ open_ feed waits,
    State.completeAccess_resume (x := x.rested) _ _ _ _ open_ oldest] at first
  have held := State.exchangeEnds_poreset u n x { d with accesses := rest } late (busAnswer m { cycles := bus })
  have last := exec_doWork ((u.exchangeEnds n x { d with accesses := rest } late (busAnswer m { cycles := bus })).setBus {})
    (.stream n) (held.trans hp)
  rw [first, last, State.doWork, State.exchangeEnds_setBus, State.exchangeEnds_setBus,
    State.exchangeEnds_streamWork u n (d := { d with accesses := rest }) feed waits, State.exchangeEnds_setBus, State.exchangeEnds_setBus]

/-- A stream replaced twice, and the memory and the bus with it. -/
theorem State.streamed_over (s : State) (n : StreamNo) (m m' : Memory) (b : Bus) (x y : Stream) :
    { s.streamed n m b x with mem := m', streams := (s.streamed n m b x).streams.set n y } = s.streamed n m' b y := by
  simp [State.streamed]

/-! ### The words of an exchange -/

theorem StreamDesc.resumes_iff (d : StreamDesc) (w : Word) : d.resumes w = true ↔
    (d.status = .stalled ∨ d.status = .muted) ∧ (if d.half = .a then wordByte w 0 else wordByte w 1) = 0 := by
  unfold StreamDesc.resumes
  cases d.half <;> cases d.status <;> simp [StreamStatus.waits, ownerByte, ownerPart]

theorem StreamDesc.resumeWord_resumes {d : StreamDesc} {w : Word} (h : d.resumes w = true) :
    d.resumeWord w = wordOf (wordByte w 0) (wordByte w 1) 1 (wordByte w 3) := by
  rw [StreamDesc.resumeWord, if_pos h]
  rfl

theorem StreamDesc.resumeWord_waits {d : StreamDesc} {w : Word} (h : d.resumes w = false) :
    d.resumeWord w = wordOf (wordByte w 0) (wordByte w 1) d.status.code (wordByte w 3) := by
  rw [StreamDesc.resumeWord, h]
  rfl

section
variable (s : State) (n : StreamNo) (m : Memory) {x : Stream} {d : StreamDesc}

theorem State.exchangeEnds_resumes (h : d.resumes (m.readWord (s.busAddress d.block)) = true) (late : Bool) :
    s.exchangeEnds n x d late (true, m, {}) = s.streamed n (m.writeWord (s.busAddress d.block)
      (wordOf (wordByte (m.readWord (s.busAddress d.block)) 0) (wordByte (m.readWord (s.busAddress d.block)) 1) 1
        (wordByte (m.readWord (s.busAddress d.block)) 3))) {} (s.resumedStream x d late) := by
  unfold State.exchangeEnds
  dsimp only
  rw [if_pos rfl, if_pos h, StreamDesc.resumeWord_resumes h]

theorem State.exchangeEnds_waits (h : d.resumes (m.readWord (s.busAddress d.block)) = false) (late : Bool) :
    s.exchangeEnds n x d late (true, m, {}) = s.streamed n (m.writeWord (s.busAddress d.block)
      (wordOf (wordByte (m.readWord (s.busAddress d.block)) 0) (wordByte (m.readWord (s.busAddress d.block)) 1) d.status.code
        (wordByte (m.readWord (s.busAddress d.block)) 3))) {} { x with desc := some d } := by
  unfold State.exchangeEnds
  dsimp only
  rw [if_pos rfl, h, if_neg Bool.false_ne_true, StreamDesc.resumeWord_waits h]

end

/-- Settles O51. -/
theorem streamAccessEnds : Obligations.StreamAccessEnds := by
  refine ⟨fun s n d a rest hp open_ oldest direct => ?_, fun s n d bus hp open_ some_ feed due => ?_,
    fun s n d late bus hp block open_ due waits later => ?_, fun s n d k bus hp block open_ due stalled tap none_ others => ?_,
    fun s n d bus hp block open_ due muted feed none_ others => ?_⟩
  · dsimp only
    have runs {bus : List BusCycle} {t : State} (h : (s.streamed n s.mem { cycles := bus } s.streams[n]).completeAccess n = t) :
        exec (.streamAccessCompletion n bus) s = .next (t.setBus {}) := by
      rw [exec_streamAccessCompletion s n bus hp, State.endAccess_direct _ n, s.setBus_streamed n, h]
      intro e he
      have same : d = e := Option.some.inj (open_.symm.trans he)
      exact same ▸ direct
    have ends {late : Bool} (exchange : a = .resume late) (b : Bus) :=
      s.completeAccess_resume n s.mem b open_ (oldest.trans (by rw [exchange]))
    have wakes (waits : d.status = .stalled ∨ d.status = .muted)
        (own : (if d.half = .a then wordByte (s.mem.readWord (s.busAddress d.block)) 0
          else wordByte (s.mem.readWord (s.busAddress d.block)) 1) = 0) :
        StreamDesc.resumes { d with accesses := rest } (s.mem.readWord (s.busAddress d.block)) = true :=
      (StreamDesc.resumes_iff _ _).2 ⟨waits, own⟩
    refine ⟨fun off v put => ?_, fun off i get => ?_, fun word => ?_, fun late exchange => ⟨fun waits => ?_,
      fun feed waits own => ?_, fun k tap waits own early => ?_, fun k tap waits own due inTime long => ?_, ?_⟩⟩
    · rw [runs (s.completeAccess_put n s.mem open_ (oldest.trans (by rw [put])))]
      rfl
    · rw [runs (s.completeAccess_get n s.mem open_ (oldest.trans (by rw [get])))]
      rfl
    · rw [runs (s.completeAccess_wordFails n s.mem open_ oldest word)]
      rfl
    · have stays : StreamDesc.resumes { d with accesses := rest } (s.mem.readWord (s.busAddress d.block)) = false := by
        rw [← Bool.not_eq_true, StreamDesc.resumes_iff]
        exact fun h => waits h.1 h.2
      rw [runs ((ends exchange {}).trans (s.exchangeEnds_waits n s.mem stays late))]
      rfl
    · have settled := direct.resolve_left (not_not.2 feed)
      rw [runs ((ends exchange {}).trans (s.exchangeEnds_resumes n s.mem (wakes waits own) late)),
        State.resumedStream_feedSettled (d := { d with accesses := rest }) _ _ feed settled]
      rfl
    · rw [runs ((ends exchange {}).trans (s.exchangeEnds_resumes n s.mem (wakes waits own) late)),
        State.resumedStream_tapKeeps (d := { d with accesses := rest }) _ _ tap early]
      rfl
    · rw [runs ((ends exchange {}).trans (s.exchangeEnds_resumes n s.mem (wakes waits own) late)),
        State.resumedStream_tapPlaces (d := { d with accesses := rest }) _ _ tap due inTime long]
      rfl
    · rw [runs (ends exchange { cycles := errorAfter 0 })]
      rfl
  · obtain ⟨y, settled, works⟩ := s.streamWork_settles n open_ due feed
    have ended : exec (.frameBoundary false [.stream n] []) s = .next (s.streamed n s.mem {} y) :=
      (exec_doWork s _ hp).trans (congrArg (fun t : State => Host.Outcome.next (t.setBus {})) (works {}))
    have direct : (s.streamed n s.mem { cycles := bus } y).endAccess n = (s.streamed n s.mem { cycles := bus } y).completeAccess n :=
      State.endAccess_direct _ _ fun e _ => .inr (by rw [State.streamed_get, settled])
    refine ⟨_, ended, ?_⟩
    have before := exec_streamAccessCompletion (s.streamed n s.mem {} y) n bus hp
    have after := State.endAccess_feed (s := s.setBus { cycles := bus }) open_ feed some_
    rw [exec_streamAccessCompletion s n bus hp, before, after, works,
      State.setBus_streamedBus, direct]
  · obtain ⟨v, same, get⟩ := State.blockStreams_get (s.blockBegun.setBus { cycles := bus }) n late
    have waiting : d.status.waits = true := (StreamStatus.waits_iff _).2 (by rcases waits with h | h <;> simp [h])
    have same : v.streams[n] = s.streams[n] :=
      same.trans (congrArg (fun v : Vector Stream 16 => v[n]) s.blockBegun_alike.1)
    refine ⟨_, exec_blockBoundary_due s late bus hp block, ?_⟩
    rw [State.blockRest_streams, get, ← v.streamed_self n,
      State.blockStream_later _ _ _ _ _ ((congrArg Stream.desc same).trans open_) due later, State.streamed_get,
      StreamDesc.issueResume_waiting due waiting, same]
  · have waiting : d.status.waits = true := by rw [stalled]; rfl
    obtain ⟨oldest, after⟩ := StreamDesc.issueResume_alone due waiting none_
    have issued := exec_blockBoundary_one [n] [] hp block fun i other e => others i e other
    have ended := exec_blockBoundary_one [] bus hp block fun i other e => others i e other
    rw [State.blockStream_later _ _ _ _ _ open_ due (.inl (List.mem_singleton.2 rfl)), State.blockRest_streamed,
      State.setBus_streamedBus] at issued
    rw [State.blockStream_now _ _ _ _ _ open_ due List.not_mem_nil none_ waiting, State.blockRest_exchangeEnds] at ended
    have access := exec_access_resume (u := s.blockBegun.blockRest) (n := n) (m := s.mem) (b := {})
      (x := { s.streams[n] with desc := some d.issueResume }) (s.blockBegun_alike.2.2.2.trans hp) rfl oldest
      (by rw [StreamDesc.issueResume_dir, tap]; exact Direction.noConfusion) bus
    rw [after] at access
    exact ⟨_, issued, ended.trans access.symm⟩
  · have waiting : d.status.waits = true := by rw [muted]; rfl
    obtain ⟨oldest, after⟩ := StreamDesc.issueResume_alone due waiting none_
    have same : { d with resumeDue := false, accesses := [] } = { d with resumeDue := false } := by rw [← none_]
    have issued := exec_blockBoundary_one [n] [] hp block fun i other e => others i e other
    have ended (bus : List BusCycle) := exec_blockBoundary_one [] bus hp block fun i other e => others i e other
    rw [State.blockStream_later _ _ _ _ _ open_ due (.inl (List.mem_singleton.2 rfl)), State.blockRest_streamed,
      State.setBus_streamedBus] at issued
    simp only [State.blockStream_now _ _ _ _ _ open_ due List.not_mem_nil none_ waiting, State.blockRest_exchangeEnds] at ended
    have address : s.blockBegun.blockRest.busAddress = s.busAddress := s.blockBegun_alike.busAddress
    refine ⟨_, issued, ⟨fun other => (ended []).trans ?_, fun own => (ended []).trans ?_⟩, _, ended bus, ?_⟩
    · have stays : StreamDesc.resumes { d with resumeDue := false, accesses := [] }
          (s.mem.readWord (s.blockBegun.blockRest.busAddress d.block)) = false := by
        rw [address, ← Bool.not_eq_true, StreamDesc.resumes_iff]
        exact fun h => other h.2
      have code : d.status.code = 3 := by rw [muted]; rfl
      rw [busAnswer_quiet, State.exchangeEnds_waits _ n s.mem stays, address, same]
      dsimp only
      rw [code]
      exact congrArg Host.Outcome.next (State.streamed_over s.blockBegun.blockRest n _ _ _ _ _).symm
    · have wakes : StreamDesc.resumes { d with resumeDue := false, accesses := [] }
          (s.mem.readWord (s.blockBegun.blockRest.busAddress d.block)) = true := by
        rw [address, StreamDesc.resumes_iff]
        exact ⟨.inr muted, own⟩
      rw [busAnswer_quiet, State.exchangeEnds_resumes _ n s.mem wakes, address,
        State.resumedStream_feed (d := { d with resumeDue := false, accesses := [] }) _ _ feed]
      exact congrArg Host.Outcome.next (State.streamed_over s.blockBegun.blockRest n _ _ _ _ _).symm
    · rw [← after]
      exact exec_feed_order (u := s.blockBegun.blockRest) (x := { s.streams[n] with desc := some d.issueResume })
        (s.blockBegun_alike.2.2.2.trans hp) rfl oldest (d.issueResume_dir.trans feed)
        (by rw [StreamDesc.issueResume_waiting due waiting, muted]; exact StreamStatus.noConfusion) bus

end Sys2Proof.Machine
end

section
/-! PROOFS. The message router: the decision, deliveries, replies and RETURNED messages, and what it makes of a message in a
holding. -/

namespace Sys2Proof.Machine

/-! ### The decision (08 R147) -/

theorem highestBit_eq {x : Octet} {i : Fin 8} (set : x.getLsbD i = true) (above : ∀ j : Fin 8, i < j → x.getLsbD j = false) :
    highestBit x = i := by
  have passes (j rest : Fin 8) (le : i ≤ j) (lower : j ≠ i → rest = i) : (if x.getLsbD j then j else rest) = i := by
    by_cases same : j = i
    · subst same
      rw [if_pos set]
    · rw [above j (lt_of_le_of_ne le (Ne.symm same)), if_neg Bool.false_ne_true, lower same]
  refine passes 7 _ (by omega) fun _ => passes 6 _ (by omega) fun _ => passes 5 _ (by omega) fun _ => passes 4 _ (by omega) fun _ =>
    passes 3 _ (by omega) fun _ => passes 2 _ (by omega) fun _ => passes 1 _ (by omega) fun _ => by omega

section
variable {s : State} {dest : Octet}

theorem State.route_home (h : dest = s.router.node) : s.route dest = .atHome := if_pos h

theorem State.route_entry {i : Fin 8} (away : dest ≠ s.router.node) (h : highestBit (dest ^^^ s.router.node) = i) : s.route dest =
    match s.router.table[i] with
    | none => .noRoute
    | some p => if s.lines[p].line = .linked then .out p else .linkDown := by
  subst h
  exact if_neg away

theorem State.away_of_bit {i : Nat} (set : (dest ^^^ s.router.node).getLsbD i = true) : dest ≠ s.router.node := by
  rintro rfl
  rw [BitVec.xor_self] at set
  simp at set

theorem State.route_linked {p : Port} (h : s.route dest = .out p) : s.lines[p].line = .linked := by
  unfold State.route at h
  split at h
  · cases h
  · split at h
    · cases h
    · split at h
      · cases h; assumption
      · cases h

theorem State.queueFree_iff (p : Port) : s.queueFree p = true ↔ s.channels[p].queue.length < 4 := decide_eq_true_iff

theorem State.queueRoom_iff (p : Port) :
    s.queueRoom p = true ↔ s.lines[p].line = .linked ∧ s.channels[p].queue.length < 4 := by
  rw [State.queueRoom, Bool.and_eq_true, beq_iff_eq, State.queueFree_iff]

end

/-! ### Deliveries (08 8.5) -/

theorem List.getD_drop_octets (l : List Octet) (n k : Nat) (o : Octet) : (l.drop n).getD k o = l.getD (n + k) o := by
  simp [List.getD_eq_getElem?_getD]

/-- Byte `k` of a word of up to four octets. -/
theorem wordByte_wordOfList (fill : Octet) (l : List Octet) (k : Nat) (h : k < 4) :
    wordByte (wordOfList fill l) k = l.getD k fill := by
  have byte : k = 0 ∨ k = 1 ∨ k = 2 ∨ k = 3 := by omega
  rcases byte with rfl | rfl | rfl | rfl <;> simp [wordOfList]

theorem deliveryResults_word (m : Message) (j : Nat) (h : j < (m.payload.length + 3) / 4) :
    (deliveryResults m)[1 + j]? = some (1 + j, wordOfList 0 (m.payload.drop (4 * j))) := by
  have next : (deliveryResults m)[1 + j]? = (deliveryResults m)[j + 1]? := by rw [Nat.add_comm]
  rw [next, deliveryResults, List.getElem?_cons_succ, List.getElem?_map, List.getElem?_range h]
  rfl

section
variable {s : State} {m : Message} {d : Octet}

theorem State.deliver_empty (h : s.router.listens = []) : s.deliver m d = none := by
  unfold State.deliver
  rw [h]

theorem State.deliver_oldest {l : Held} {ls : List Held} (h : s.router.listens = l :: ls) : s.deliver m d = some { s with
    router := { s.router with listens := ls }
    retire := s.retire ++ [.retire l .done d (deliveryResults m) false] } := by
  unfold State.deliver
  rw [h]
  rfl

/-! ### Replies (08 R158) -/

theorem ProbeEntry.answeredBy_iff (e : ProbeEntry) :
    e.answeredBy m = true ↔ e.target = m.source ∧ m.payload.head? = some e.serial := by
  simp [ProbeEntry.answeredBy]

theorem State.matchReply_none (h : ∀ e ∈ s.router.probes, e.answeredBy m = false) : s.matchReply m = s := by
  unfold State.matchReply
  rw [List.find?_eq_none.2 fun e he => by simp [h e he]]

/-- The first entry of a list that answers, and the list without it. -/
theorem find?_first {α : Type} {p : α → Bool} {before after : List α} {a : α} (h : p a = true) (none_ : ∀ b ∈ before, p b = false) :
    (before ++ a :: after).find? p = some a ∧ (before ++ a :: after).eraseP p = before ++ after := by
  constructor
  · rw [List.find?_append, List.find?_eq_none.2 fun b hb => by simp [none_ b hb]]
    simp [h]
  · rw [List.eraseP_append_right _ fun b hb => by simp [none_ b hb], List.eraseP_cons_of_pos h]

theorem State.matchReply_first {before after : List ProbeEntry} {e : ProbeEntry} (probes : s.router.probes = before ++ e :: after)
    (h : e.answeredBy m = true) (none_ : ∀ f ∈ before, f.answeredBy m = false) : s.matchReply m = { s with
      router := { s.router with probes := before ++ after }
      retire := s.retire ++ [.retire e.held .done (BitVec.ofNat 8 (15 - m.hop.toNat)) [] false] } := by
  obtain ⟨found, erased⟩ := find?_first (p := fun e : ProbeEntry => e.answeredBy m) (after := after) h none_
  unfold State.matchReply State.onRouter State.requestRetire State.addRequest
  rw [probes, found]
  dsimp only
  rw [probes, erased]
  rfl

/-! ### Messages that the router makes (08 8.8) -/

theorem State.routeMade_out {q : Port} (out : s.route m.dest = .out q) (room : s.queueRoom q = true) :
    s.routeMade m = s.enqueue q { msg := m, origin := .router } := by
  unfold State.routeMade
  rw [out]
  exact if_pos room

theorem State.routeMade_noRoom {q : Port} (out : s.route m.dest = .out q) (full : s.queueRoom q = false) : s.routeMade m = s := by
  unfold State.routeMade
  rw [out]
  exact if_neg (Bool.eq_false_iff.1 full)

theorem State.routeMade_lost (lost : s.route m.dest = .noRoute ∨ s.route m.dest = .linkDown) : s.routeMade m = s := by
  unfold State.routeMade
  rcases lost with h | h <;> rw [h]

theorem State.routeMade_returned (home : s.route m.dest = .atHome) (kind : m.kind = .returned) :
    s.routeMade m = (s.deliver m 0xFF).getD s := by
  unfold State.routeMade
  rw [home, kind]

theorem State.routeMade_reply (home : s.route m.dest = .atHome) (kind : m.kind = .probeReply) :
    s.routeMade m = s.matchReply m := by
  unfold State.routeMade
  rw [home, kind]

theorem State.dropMessage_data (kind : m.kind = .data) (o : OutcomeCode) :
    s.dropMessage m o = s.routeMade (s.returnedFor m o) := if_pos kind

theorem State.dropMessage_other (kind : m.kind ≠ .data) (o : OutcomeCode) : s.dropMessage m o = s := if_neg kind

/-! ### A message in a holding (08 R147 to R149) -/

variable {p : Port}

theorem State.routeInbound_delivered {l : Held} {ls : List Held} (home : s.route m.dest = .atHome)
    (kind : m.kind = .data ∨ m.kind = .returned) (pool : s.router.listens = l :: ls) : s.routeInbound p m = (none, { s with
      router := { s.router with listens := ls }
      retire := s.retire ++ [.retire l .done (BitVec.ofNat 8 p.val) (deliveryResults m) false] }) := by
  unfold State.routeInbound
  rcases kind with kind | kind <;> rw [home, kind] <;> dsimp only <;> rw [State.deliver_oldest pool] <;> rfl

theorem State.routeInbound_pool (home : s.route m.dest = .atHome) (kind : m.kind = .data ∨ m.kind = .returned)
    (pool : s.router.listens = []) : s.routeInbound p m = (some .pool, s) := by
  unfold State.routeInbound
  rcases kind with kind | kind <;> rw [home, kind] <;> dsimp only <;> rw [State.deliver_empty pool]

theorem State.routeInbound_probe (home : s.route m.dest = .atHome) (kind : m.kind = .probe) :
    s.routeInbound p m = (none, s.routeMade (s.probeReply m)) := by
  unfold State.routeInbound
  rw [home, kind]

theorem State.routeInbound_reply (home : s.route m.dest = .atHome) (kind : m.kind = .probeReply) :
    s.routeInbound p m = (none, s.matchReply m) := by
  unfold State.routeInbound
  rw [home, kind]

theorem State.routeInbound_noRoute (h : s.route m.dest = .noRoute) :
    s.routeInbound p m = (none, s.dropMessage m .noRoute) := by
  unfold State.routeInbound
  rw [h]

theorem State.routeInbound_linkDown (h : s.route m.dest = .linkDown) :
    s.routeInbound p m = (none, s.dropMessage m .linkDown) := by
  unfold State.routeInbound
  rw [h]

theorem State.routeInbound_out {q : Port} (out : s.route m.dest = .out q) : s.routeInbound p m =
    if m.hop.toNat ≤ 1 then (none, s.dropMessage m .hopsExhausted)
    else if s.queueRoom q then (none, s.enqueue q { msg := { m with hop := m.hop - 1 }, origin := .router })
    else (some (.queue q), s) := by
  unfold State.routeInbound
  rw [out]

end

/-- The serial byte of a PROBE in its reply (08 R157). -/
theorem State.probeReply_eq (s : State) (m : Message) : s.probeReply m = {
    dest := m.source, source := s.router.node, hop := 15, kind := .probeReply
    payload := match m.payload with
      | [serial] => [serial]
      | _ => [0] } := by
  unfold State.probeReply
  rcases m.payload with _ | ⟨serial, _ | ⟨second, rest⟩⟩ <;> rfl

/-- Settles O31. -/
theorem routingAndDelivery : Obligations.RoutingAndDelivery := by
  refine ⟨fun s dest => ⟨State.route_home, fun i set above => ?_⟩, fun m _ => ⟨?_, ?_, fun j hj => ?_⟩, fun s q => State.queueRoom_iff q,
    fun s m => ⟨fun q => State.routeMade_out, fun q => State.routeMade_noRoom, State.routeMade_lost, fun home kind => ?_,
      State.routeMade_reply, ⟨fun none_ => ?_, fun before e after probes answers none_ => ?_⟩,
      fun o => ⟨fun kind => State.dropMessage_other kind o, fun kind => State.dropMessage_data kind o⟩⟩, fun s p m => ?_⟩
  · have route := State.route_entry (State.away_of_bit set) (highestBit_eq set above)
    refine ⟨fun none_ => ?_, fun p entry down => ?_, fun p entry linked => ?_⟩
    · rw [route, none_]
    · rw [route, entry]
      exact if_neg down
    · rw [route, entry]
      exact if_pos linked
  · rw [deliveryResults, List.length_cons, List.length_map, List.length_range, Nat.add_comm]
  · rintro e ⟨⟩
    rfl
  · refine ⟨_, deliveryResults_word m j hj, fun k hk => ?_⟩
    rw [wordByte_wordOfList _ _ _ hk, List.getD_drop_octets]
  · rw [State.routeMade_returned home kind]
    refine ⟨fun empty => ?_, fun l ls pool => ?_⟩
    · rw [State.deliver_empty empty]
      rfl
    · rw [State.deliver_oldest pool]
      rfl
  · exact State.matchReply_none fun e he => Bool.eq_false_iff.2 fun h => none_ e he (e.answeredBy_iff.1 h)
  · exact State.matchReply_first probes (e.answeredBy_iff.2 answers)
      fun f hf => Bool.eq_false_iff.2 fun h => none_ f hf (f.answeredBy_iff.1 h)
  · refine ⟨fun l ls => State.routeInbound_delivered, State.routeInbound_pool, fun home kind => ?_, State.routeInbound_reply,
      State.routeInbound_noRoute, State.routeInbound_linkDown, fun q out last => ?_, fun q out more full => ?_, fun q out more room => ?_⟩
    · exact (State.routeInbound_probe home kind).trans (congrArg (fun m => (none, State.routeMade _ m)) (State.probeReply_eq _ _))
    · exact (State.routeInbound_out out).trans (if_pos last)
    · exact (State.routeInbound_out out).trans ((if_neg (by omega)).trans (if_neg (Bool.eq_false_iff.1 full)))
    · exact (State.routeInbound_out out).trans ((if_neg (by omega)).trans (if_pos room))

end Sys2Proof.Machine
end

section
/-! PROOFS. SEND, LISTEN, RECALL and PROBE at take; the waits of a holding and the end of an unanswered PROBE. -/

namespace Sys2Proof.Machine

/-! ### Checks and room (08 R154, R156) -/

section
variable {r : WorkRecord}

theorem sendFault_field (bad : ¬ (r.byte 0 0 ≠ 0 ∧ r.byte 0 0 ≠ 255 ∧ 1 ≤ (r.byte 0 1).toNat ∧ (r.byte 0 1).toNat ≤ 15 ∧
    r.byte 0 2 = 2 ∧ (r.byte 0 3).toNat ≤ 48)) : sendFault r = some .badField := by
  unfold sendFault
  dsimp only
  split
  · rfl
  · next dest =>
    have h0 : r.byte 0 0 ≠ 0 := fun h => dest (.inl (by rw [h]; rfl))
    have h255 : r.byte 0 0 ≠ 255 := fun h => dest (.inr (by rw [h]; rfl))
    split
    · rfl
    · next hops =>
      split
      · rfl
      · next version =>
        refine if_pos ?_
        by_contra few
        exact bad ⟨h0, h255, by omega, by omega, not_not.1 version, by omega⟩

section
variable (good : r.byte 0 0 ≠ 0 ∧ r.byte 0 0 ≠ 255 ∧ 1 ≤ (r.byte 0 1).toNat ∧ (r.byte 0 1).toNat ≤ 15 ∧
    r.byte 0 2 = 2 ∧ (r.byte 0 3).toNat ≤ 48)
include good

theorem sendFault_good : sendFault r = if r.body.length < 1 + ((r.byte 0 3).toNat + 3) / 4 then some .badLength else none := by
  obtain ⟨h0, h255, low, high, version, few⟩ := good
  have dest : ¬ ((r.byte 0 0).toNat = 0 ∨ (r.byte 0 0).toNat = 255) := by
    rintro (h | h)
    · exact h0 (BitVec.eq_of_toNat_eq h)
    · exact h255 (BitVec.eq_of_toNat_eq h)
  exact (if_neg dest).trans ((if_neg (by omega)).trans ((if_neg (not_not.2 version)).trans (if_neg (by omega))))

end

theorem probeFault_field (bad : ¬ (r.byte 0 0 ≠ 0 ∧ r.byte 0 0 ≠ 255 ∧ r.byte 0 2 ≠ 0)) : probeFault r = some .badField := by
  unfold probeFault
  split
  · rfl
  · next dest =>
    obtain ⟨h0, h255⟩ := not_or.1 dest
    exact if_pos (not_not.1 fun h => bad ⟨h0, h255, h⟩)

theorem probeFault_none (good : r.byte 0 0 ≠ 0 ∧ r.byte 0 0 ≠ 255 ∧ r.byte 0 2 ≠ 0) : probeFault r = none := by
  obtain ⟨h0, h255, blocks⟩ := good
  exact (if_neg (not_or.2 ⟨h0, h255⟩)).trans (if_neg blocks)

end

section
variable {s : State} {r : WorkRecord}

/-- The port that a message resolves to has room in its queue, where it resolves to one. -/
theorem State.routeFull_false {dest : Octet} (room : ∀ p, s.route dest = .out p → s.channels[p].queue.length < 4) :
    s.routeFull dest = false := by
  unfold State.routeFull
  split
  · next p out => rw [(State.queueFree_iff p).2 (room p out)]; rfl
  all_goals rfl

theorem ownerFull_send (hf : Found s .send r)
    (room : sendFault r = none → ∀ p, s.route (r.byte 0 0) = .out p → s.channels[p].queue.length < 4) : s.ownerFull r = false := by
  unfold State.ownerFull State.collectionFull State.outboundFull
  rw [hf.2.2]
  dsimp only
  rw [Bool.false_or]
  cases fault : sendFault r with
  | some o => rfl
  | none => rw [State.routeFull_false (room fault), Bool.and_false]

theorem ownerFull_probe (hf : Found s .probe r)
    (room : probeFault r = none → ∀ p, s.route (r.byte 0 0) = .out p → s.channels[p].queue.length < 4 ∧ s.router.probes.length < 4) :
    s.ownerFull r = false := by
  have list : s.collectionFull r = false := by
    unfold State.collectionFull
    rw [hf.2.2]
    dsimp only
    cases fault : probeFault r with
    | some o => rfl
    | none =>
      cases out : s.routesOut (r.byte 0 0) with
      | false => rfl
      | true =>
        obtain ⟨p, out⟩ := State.routesOut_iff.1 out
        exact decide_eq_false (by have := (room fault p out).2; omega)
  unfold State.ownerFull State.outboundFull
  rw [list, hf.2.2]
  dsimp only
  rw [Bool.false_or]
  cases fault : probeFault r with
  | some o => rfl
  | none => rw [State.routeFull_false fun p out => (room fault p out).1, Bool.and_false]

theorem exec_send (hf : Found s .send r)
    (room : sendFault r = none → ∀ p, s.route (r.byte 0 0) = .out p → s.channels[p].queue.length < 4) :
    exec .send s = .next ((taken s r).takeSend r) :=
  take_next s .send r _ _ hf (ofKind_of _ r hf.2.2) (ownerFull_send hf room)

theorem exec_probe (hf : Found s .probe r)
    (room : probeFault r = none → ∀ p, s.route (r.byte 0 0) = .out p → s.channels[p].queue.length < 4 ∧ s.router.probes.length < 4) :
    exec .probe s = .next ((taken s r).takeProbe r) :=
  take_next s .probe r _ _ hf (ofKind_of _ r hf.2.2) (ownerFull_probe hf room)

end

/-! ### SEND (08 R154, R155) -/

section
variable {s : State} {r : WorkRecord}

theorem State.takeSend_fault {o : OutcomeCode} (fault : sendFault r = some o) : s.takeSend r = s.endTake r.held o 0 := by
  unfold State.takeSend
  rw [fault]

section
variable (fault : sendFault r = none)
include fault

theorem State.takeSend_noListener (home : s.route (r.byte 0 0) = .atHome) (empty : s.router.listens = []) :
    s.takeSend r = s.endTake r.held .noListener 0 := by
  unfold State.takeSend
  rw [fault]
  dsimp only
  rw [show s.route (s.sendMessage r).dest = .atHome from home, State.deliver_empty empty]

theorem State.takeSend_delivered {l : Held} {ls : List Held} (home : s.route (r.byte 0 0) = .atHome)
    (pool : s.router.listens = l :: ls) : s.takeSend r = ({ s with
      router := { s.router with listens := ls }
      retire := s.retire ++ [.retire l .done 0xFF (deliveryResults (s.sendMessage r)) false] } : State).endTake r.held .done
        (octet (s.sendMessage r).size) := by
  unfold State.takeSend
  rw [fault]
  dsimp only
  rw [show s.route (s.sendMessage r).dest = .atHome from home, State.deliver_oldest pool]

theorem State.takeSend_noRoute (h : s.route (r.byte 0 0) = .noRoute) : s.takeSend r = s.endTake r.held .noRoute 0 := by
  unfold State.takeSend
  rw [fault]
  dsimp only
  rw [show s.route (s.sendMessage r).dest = .noRoute from h]

theorem State.takeSend_linkDown (h : s.route (r.byte 0 0) = .linkDown) : s.takeSend r = s.endTake r.held .linkDown 0 := by
  unfold State.takeSend
  rw [fault]
  dsimp only
  rw [show s.route (s.sendMessage r).dest = .linkDown from h]

theorem State.takeSend_out {p : Port} (out : s.route (r.byte 0 0) = .out p) :
    s.takeSend r = (s.keepTake r.held).enqueue p { msg := s.sendMessage r, origin := .send r.held } := by
  unfold State.takeSend
  rw [fault]
  dsimp only
  rw [show s.route (s.sendMessage r).dest = .out p from out]

end

theorem State.sendMessage_size (s : State) (r : WorkRecord) : (s.sendMessage r).size = 5 + (r.byte 0 3).toNat := by
  simp [Message.size, State.sendMessage, WorkRecord.payload]

end

/-- Settles O32. -/
theorem sendTaken : Obligations.SendTaken := by
  intro s r hf
  have runs {t : State} (room : sendFault r = none → ∀ p, s.route (r.byte 0 0) = .out p → s.channels[p].queue.length < 4)
      (h : (taken s r).takeSend r = t) : exec .send s = .next t := (exec_send hf room).trans (congrArg _ h)
  dsimp only
  refine ⟨fun bad => ?_, fun good short => ?_, fun good long => ⟨fun home empty => ?_, fun l ls home pool => ?_, fun lost => ?_,
    fun lost => ?_, fun p out room => ?_⟩⟩
  · have fault := sendFault_field bad
    exact runs (fun h => by rw [fault] at h; cases h) (State.takeSend_fault fault)
  · have fault := (sendFault_good good).trans (if_pos short)
    exact runs (fun h => by rw [fault] at h; cases h) (State.takeSend_fault fault)
  all_goals have fault := (sendFault_good good).trans (if_neg (by omega))
  · exact runs (fun _ p out => by rw [home] at out; cases out) (State.takeSend_noListener fault home empty)
  · have delivered := State.takeSend_delivered (s := taken s r) fault home pool
    rw [State.sendMessage_size] at delivered
    refine (runs (fun _ p out => by rw [home] at out; cases out) delivered).trans ?_
    unfold State.endTake State.addRequest
    rw [List.append_assoc]
    rfl
  · exact runs (fun _ p out => by rw [lost] at out; cases out) (State.takeSend_noRoute fault lost)
  · exact runs (fun _ p out => by rw [lost] at out; cases out) (State.takeSend_linkDown fault lost)
  · refine (runs (fun _ q out' => ?_) (State.takeSend_out (s := taken s r) fault out)).trans rfl
    rw [out] at out'
    cases out'
    exact room

/-! ### LISTEN and RECALL (08 R151, R153) -/

/-- Retirements asked for one after the other. -/
theorem State.requestRetires (l : List Held) (s : State) (o : OutcomeCode) (d : Octet) :
    l.foldl (fun s h => s.requestRetire h o d) s =
      { s with retire := s.retire ++ l.map fun h => Request.retire h o d [] false } := by
  induction l generalizing s with
  | nil => rw [List.map_nil, List.append_nil]; rfl
  | cons h l ih =>
    rw [List.foldl_cons, ih, List.map_cons]
    unfold State.requestRetire State.addRequest
    rw [List.append_assoc]
    rfl

theorem exec_recall (s : State) : exec .recallPool s =
    whileReleased s fun s => s.takeWith (ofKind .recallPool) State.takeRecall := rfl

/-- Settles O33. -/
theorem listenAndRecallTaken : Obligations.ListenAndRecallTaken := by
  refine ⟨fun s r hf room => ?_, fun s r hf => ?_⟩
  · have list : s.collectionFull r = false := by
      unfold State.collectionFull
      rw [hf.2.2]
      exact decide_eq_false (by omega)
    have queue := State.outboundFull_none (s := s) hf.2.2 (by decide) (by decide)
    exact (take_next s .listen r _ State.takeListen hf (ofKind_of _ r hf.2.2) (State.ownerFull_of list queue)).trans rfl
  · rw [exec_recall, take_next s .recallPool r _ _ hf (ofKind_of _ r hf.2.2) (ownerFull_false s r _ hf.2.2 (by decide)),
      State.takeRecall, State.requestRetires]
    rfl

/-! ### PROBE (08 R156) -/

section
variable {s : State} {r : WorkRecord}

theorem State.takeProbe_fault {o : OutcomeCode} (fault : probeFault r = some o) : s.takeProbe r = s.endTake r.held o 0 := by
  unfold State.takeProbe
  rw [fault]

section
variable (fault : probeFault r = none)
include fault

theorem State.takeProbe_home (h : s.route (r.byte 0 0) = .atHome) : s.takeProbe r = s.endTake r.held .done 0 := by
  unfold State.takeProbe
  rw [fault]
  dsimp only
  rw [show s.route (s.probeMessage r).dest = .atHome from h]

theorem State.takeProbe_noRoute (h : s.route (r.byte 0 0) = .noRoute) : s.takeProbe r = s.endTake r.held .noRoute 0 := by
  unfold State.takeProbe
  rw [fault]
  dsimp only
  rw [show s.route (s.probeMessage r).dest = .noRoute from h]

theorem State.takeProbe_linkDown (h : s.route (r.byte 0 0) = .linkDown) : s.takeProbe r = s.endTake r.held .linkDown 0 := by
  unfold State.takeProbe
  rw [fault]
  dsimp only
  rw [show s.route (s.probeMessage r).dest = .linkDown from h]

theorem State.takeProbe_out {p : Port} (out : s.route (r.byte 0 0) = .out p) : s.takeProbe r =
    ((s.keepTake r.held).enqueue p { msg := s.probeMessage r, origin := .router }).onRouter fun t =>
      { t with probes := t.probes ++ [probeEntry r] } := by
  unfold State.takeProbe
  rw [fault]
  dsimp only
  rw [show s.route (s.probeMessage r).dest = .out p from out]

end

end

/-- Settles O34. -/
theorem probeTaken : Obligations.ProbeTaken := by
  intro s r hf
  have runs {t : State} (room : probeFault r = none → ∀ p, s.route (r.byte 0 0) = .out p →
      s.channels[p].queue.length < 4 ∧ s.router.probes.length < 4)
      (h : (taken s r).takeProbe r = t) : exec .probe s = .next t := (exec_probe hf room).trans (congrArg _ h)
  refine ⟨fun bad => ?_, fun good home => ?_, fun good lost => ?_, fun good lost => ?_, fun p good out queue list => ?_⟩
  · have fault := probeFault_field bad
    exact runs (fun h => by rw [fault] at h; cases h) (State.takeProbe_fault fault)
  · exact runs (fun _ p out => by rw [home] at out; cases out) (State.takeProbe_home (probeFault_none good) home)
  · exact runs (fun _ p out => by rw [lost] at out; cases out) (State.takeProbe_noRoute (probeFault_none good) lost)
  · exact runs (fun _ p out => by rw [lost] at out; cases out) (State.takeProbe_linkDown (probeFault_none good) lost)
  · refine (runs (fun _ q out' => ?_) (State.takeProbe_out (s := taken s r) (probeFault_none good) out)).trans rfl
    rw [out] at out'
    cases out'
    exact ⟨queue, list⟩

end Sys2Proof.Machine
end

section
/-! PROOFS. The waits of a holding, boundary by boundary, and the end of a PROBE without a reply. -/

namespace Sys2Proof.Machine

/-! ### The wait of a holding (08 R149, R150) -/

section
variable {s t : State} {p : Port} {m : Message} {on : WaitFor}

theorem State.handToRouter_empties (h : s.routeInbound p m = (none, t)) : s.handToRouter p m = t.emptyHolding p := by
  unfold State.handToRouter
  rw [h]

theorem State.handToRouter_waits (h : s.routeInbound p m = (some on, t)) : s.handToRouter p m = t.holdWait p on 0 := by
  unfold State.handToRouter
  rw [h]

variable {w : HoldingWait} (wait : s.router.waits[p] = some w) (holding : s.channels[p].holding = some m)
include wait holding

theorem State.expireHolding_early (early : w.waited + 1 < 64) : s.expireHolding p = s := by
  have late : decide (64 ≤ w.waited + 1) = false := decide_eq_false (by omega)
  unfold State.expireHolding
  rw [wait, holding]
  dsimp only
  rw [late, Bool.and_false, if_neg Bool.false_ne_true]

variable (due : s.router.retryDue[p] = true)
include due

theorem State.retryHolding_empties (early : w.waited + 1 < 64) (h : s.routeInbound p m = (none, t)) :
    s.retryHolding p = t.emptyHolding p := by
  unfold State.retryHolding
  rw [wait, holding]
  dsimp only
  rw [due, decide_eq_true early, h]
  rfl

theorem State.retryHolding_waits (early : w.waited + 1 < 64) (h : s.routeInbound p m = (some on, t)) :
    s.retryHolding p = t.holdWait p on (w.waited + 1) := by
  unfold State.retryHolding
  rw [wait, holding]
  dsimp only
  rw [due, decide_eq_true early, h]
  rfl

theorem State.expireHolding_empties (late : 64 ≤ w.waited + 1) (h : s.routeInbound p m = (none, t)) :
    s.expireHolding p = t.emptyHolding p := by
  unfold State.expireHolding
  rw [wait, holding]
  dsimp only
  rw [due, decide_eq_true late, h]
  rfl

theorem State.expireHolding_drops (late : 64 ≤ w.waited + 1) (h : s.routeInbound p m = (some on, t)) :
    s.expireHolding p = (t.dropMessage m on.reason).emptyHolding p := by
  unfold State.expireHolding
  rw [wait, holding]
  dsimp only
  rw [due, decide_eq_true late, h]
  rfl

end

theorem exec_retry (s : State) (p : Port) (hp : s.regs.poreset = false) :
    exec (.frameBoundary false [.retry p] []) s = .next (((s.setBus {}).retryHolding p).setBus {}) := exec_doWork s (.retry p) hp

theorem exec_holdingWaitExpiry (s : State) (p : Port) (hp : s.regs.poreset = false) :
    exec (.holdingWaitExpiry p) s = .next (s.expireHolding p) := whileReleased_next s (fun s => s.expireHolding p) hp

/-- The router touches no bus. -/
theorem State.routeInbound_bus {s t : State} {p : Port} {m : Message} {w : Option WaitFor} (h : s.routeInbound p m = (w, t)) :
    t.bus = s.bus := by
  have only := s.routeInbound_only p m
  rw [h] at only
  have same : t = { s with retire := t.retire, channels := t.channels, router := t.router } := only
  rw [same]

/-- A holding that has been emptied after a message joined a queue. -/
theorem State.emptyHolding_enqueued (s : State) (p q : Port) (e : Queued) :
    ((s.enqueue q e).emptyHolding p).channels[p].holding = none ∧
    ((s.enqueue q e).emptyHolding p).channels[q].queue = s.channels[q].queue ++ [e] := by
  unfold State.emptyHolding State.enqueue State.onChannel State.onRouter
  dsimp only
  constructor
  · rw [updAt_same]
  · by_cases same : p = q
    · subst same
      rw [updAt_same, updAt_same]
    · rw [updAt_other _ _ _ _ same, updAt_same]

/-! ### A PROBE without a reply (08 R158) -/

/-- The PROBE's time is over at this block boundary. -/
def ProbeEntry.expired (e : ProbeEntry) : Bool := e.tickDue && decide (e.blocks ≤ 1)

theorem ProbeEntry.expired_iff (e : ProbeEntry) : e.expired = true ↔ e.tickDue = true ∧ e.blocks ≤ 1 := by
  simp [ProbeEntry.expired]

theorem ProbeEntry.expired_not {e : ProbeEntry} (h : e.tickDue = false ∨ 2 ≤ e.blocks) : e.expired = false := by
  rw [← Bool.not_eq_true, e.expired_iff]
  rintro ⟨due, blocks⟩
  rcases h with h | h
  · rw [due] at h
    cases h
  · omega

theorem State.expireProbe_eq (s : State) : s.expireProbe =
    match s.router.probes.find? ProbeEntry.expired with
    | none => s
    | some e => (s.onRouter fun r => { r with probes := r.probes.eraseP ProbeEntry.expired }).requestRetire e.held .noReply 0 := rfl

theorem exec_noReply (s : State) (hp : s.regs.poreset = false) : exec .noReply s = .next s.expireProbe :=
  whileReleased_next s State.expireProbe hp

/-- Settles O55. -/
theorem holdingWaitsAndNoReply : Obligations.HoldingWaitsAndNoReply := by
  refine ⟨fun s p w m hp wait holding due kind home => ?_, fun s p m => ?_,
    fun s before after e hp probes due blocks others => ?_, fun s hp none_ => ?_⟩
  · have route : s.route m.dest = .atHome := State.route_home home
    have empty (pool : s.router.listens = []) : s.routeInbound p m = (some .pool, s) := State.routeInbound_pool route kind pool
    refine ⟨fun l ls early pool => ?_, fun early pool => ?_, fun early => ?_, fun l ls late pool => ?_,
      fun late pool returned => ?_, fun q late pool data out room => ?_⟩
    · rw [exec_retry s p hp, State.retryHolding_empties (s := s.setBus {}) wait holding due early
        (State.routeInbound_delivered (s := s.setBus {}) route kind pool)]
      rfl
    · rw [exec_retry s p hp, State.retryHolding_waits (s := s.setBus {}) wait holding due early
        (State.routeInbound_pool (s := s.setBus {}) route kind pool)]
      rfl
    · rw [exec_holdingWaitExpiry s p hp, State.expireHolding_early wait holding early]
    · rw [exec_holdingWaitExpiry s p hp, State.expireHolding_empties wait holding due late
        (State.routeInbound_delivered route kind pool)]
      rfl
    · rw [exec_holdingWaitExpiry s p hp, State.expireHolding_drops wait holding due late (empty pool),
        State.dropMessage_other (by rw [returned]; decide)]
      rfl
    · have dropped : s.dropMessage m .noListener = s.enqueue q { msg := s.returnedFor m .noListener, origin := .router } :=
        (State.dropMessage_data data _).trans (State.routeMade_out out room)
      obtain ⟨emptied, joined⟩ := s.emptyHolding_enqueued p q { msg := s.returnedFor m .noListener, origin := .router }
      have expired := State.expireHolding_drops wait holding due late (empty pool)
      rw [show WaitFor.pool.reason = .noListener from rfl, dropped] at expired
      exact ⟨_, (exec_holdingWaitExpiry s p hp).trans (congrArg _ expired), rfl, emptied, joined⟩
  · refine ⟨fun t h => State.handToRouter_empties h, fun on t h => State.handToRouter_waits h,
      fun w hp wait holding due => ⟨fun early => ⟨fun t h => ?_, fun on t h => ?_⟩, fun late => ⟨fun t h => ?_, fun on t h => ?_⟩⟩⟩
    · rw [exec_retry s p hp, State.retryHolding_empties (s := s.setBus {}) wait holding due early h]
      have bus : t.bus = {} := State.routeInbound_bus h
      rw [← bus]
      rfl
    · rw [exec_retry s p hp, State.retryHolding_waits (s := s.setBus {}) wait holding due early h]
      have bus : t.bus = {} := State.routeInbound_bus h
      rw [← bus]
      rfl
    · rw [exec_holdingWaitExpiry s p hp, State.expireHolding_empties wait holding due late h]
      rfl
    · rw [exec_holdingWaitExpiry s p hp, State.expireHolding_drops wait holding due late h]
      cases on <;> rfl
  · obtain ⟨found, erased⟩ := find?_first (p := ProbeEntry.expired) (after := after) (e.expired_iff.2 ⟨due, blocks⟩)
      fun f hf => ProbeEntry.expired_not (others f hf)
    rw [exec_noReply s hp, State.expireProbe_eq, probes, found]
    unfold State.onRouter
    dsimp only
    rw [probes, erased]
    rfl
  · rw [exec_noReply s hp, State.expireProbe_eq, List.find?_eq_none.2 fun f hf => by simp [ProbeEntry.expired_not (none_ f hf)]]

end Sys2Proof.Machine
end

section
/-! PROOFS. Supervision's records: the checks of SUPERVISE, PULSE outside CHALLENGE mode, the fallback table of SET_FALLBACK, and
the two actions of FALLBACK_CONTROL. -/

namespace Sys2Proof.Machine

/-! ### SUPERVISE (09 R162, R163) -/

section
variable {r : WorkRecord}

theorem superviseFault_mode (h : 2 < (r.byte 0 0).toNat) : superviseFault r = some 1 := if_pos h

theorem superviseFault_off (h : (r.byte 0 0).toNat = 0) : superviseFault r = none :=
  (if_neg (by omega)).trans (if_pos ((octet_eq_iff 0 (by omega)).2 h))

/-- The checks in their order, each on the number that its byte holds. -/
theorem superviseFault_on (h : (r.byte 0 0).toNat = 1 ∨ (r.byte 0 0).toNat = 2) : superviseFault r =
    if ¬ ((r.byte 0 1).toNat % 2 = 0 ∧ 2 ≤ (r.byte 0 1).toNat ∧ (r.byte 0 1).toNat ≤ 254) then some 2
    else if ¬ (1 ≤ (r.byte 0 2).toNat ∧ (r.byte 0 2).toNat ≤ 15) then some 3
    else if ¬ ((r.byte 1 0).toNat = 1 ∨ (r.byte 1 0).toNat = 2) then some 4
    else if ¬ ((r.byte 1 0).toNat = 2 → 1 ≤ (r.byte 1 1).toNat ∧ (r.byte 1 1).toNat ≤ 15) then some 5
    else if ¬ (1 ≤ (r.byte 1 2).toNat ∧ (r.byte 1 2).toNat ≤ 15) then some 6
    else if 1 < (r.byte 1 3).toNat then some 7
    else none := by
  have on : r.byte 0 0 ≠ 0 := fun zero => by simp [zero] at h
  have one := octet_eq_iff (b := r.byte 1 0) 1 (by omega)
  have two := octet_eq_iff (b := r.byte 1 0) 2 (by omega)
  refine (if_neg (by omega)).trans ((if_neg on).trans ?_)
  refine ite_congr (propext (by omega)) (fun _ => rfl) fun _ => ite_congr (propext (by omega)) (fun _ => rfl) fun _ =>
    ite_congr (propext ?_) (fun _ => rfl) fun _ => ite_congr (propext ?_) (fun _ => rfl) fun _ =>
    ite_congr (propext (by omega)) (fun _ => rfl) fun _ => rfl
  · rw [not_or]
    exact and_congr one.not two.not
  · rw [show r.byte 1 0 = 2 ↔ (r.byte 1 0).toNat = 2 from two]
    omega

end

section
variable {s : State} {r : WorkRecord} (hf : Found s .supervise r)
include hf

theorem exec_supervise_fault {d : Octet} (h : superviseFault r = some d) :
    exec .supervise s = .next (ended s r .badField d) :=
  take_refuses (k := .supervise) hf (by decide) (own := State.supervise) (by rw [State.supervise, h])

theorem exec_supervise_good (h : superviseFault r = none) : exec .supervise s =
    .next { ended s r .done (octet s.supervision.errorCount) with supervision := s.supervision.configured r } :=
  take_answers (k := .supervise) hf (by decide) (own := State.supervise) (o := .done)
    (d := octet s.supervision.errorCount) (u := (taken s r).onSupervision fun v => v.configured r) (by rw [State.supervise, h]; rfl)

end

section
variable {v : Supervision} {r : WorkRecord}

theorem Supervision.configured_off (h : (r.byte 0 0).toNat = 0) :
    v.configured r = { v.fresh with errorCount := 0, wordDue := true, mode := .off } :=
  if_pos ((octet_eq_iff 0 (by omega)).2 h)

theorem Supervision.configured_on (h : (r.byte 0 0).toNat = 1 ∨ (r.byte 0 0).toNat = 2) : v.configured r = { v.fresh with
    errorCount := 0
    wordDue := true
    mode := if (r.byte 0 0).toNat = 1 then .window else .challenge
    period := (r.byte 0 1).toNat
    threshold := (r.byte 0 2).toNat
    action := if (r.byte 1 0).toNat = 2 then .fallbackAndPulse else .fallback
    pulseLength := if (r.byte 1 0).toNat = 2 then (r.byte 1 1).toNat else v.pulseLength
    q := (r.byte 1 2).setWidth 4
    selector := if (r.byte 1 3).toNat = 1 then .b else .a } := by
  have on : r.byte 0 0 ≠ 0 := fun zero => by simp [zero] at h
  refine (if_neg on).trans ?_
  simp only [show r.byte 0 0 = 1 ↔ (r.byte 0 0).toNat = 1 from octet_eq_iff 1 (by omega),
    show r.byte 1 0 = 2 ↔ (r.byte 1 0).toNat = 2 from octet_eq_iff 2 (by omega),
    show r.byte 1 3 = 1 ↔ (r.byte 1 3).toNat = 1 from octet_eq_iff 1 (by omega)]
  rfl

end

/-- Settles O35. -/
theorem superviseTaken : Obligations.SuperviseTaken := by
  intro s r hf
  refine ⟨fun mode => ?_, fun on w => ?_, fun on w thr => ?_, fun on w thr act => ?_, fun on w thr act len => ?_,
    fun on w thr act len seed => ?_, fun on w thr act len seed sel => ?_, fun off => ?_, fun on w thr act len seed sel => ?_⟩
  · exact exec_supervise_fault hf (superviseFault_mode mode)
  · exact exec_supervise_fault hf ((superviseFault_on on).trans (if_pos w))
  · exact exec_supervise_fault hf (by rw [superviseFault_on on, if_neg (not_not.2 w), if_pos thr])
  · exact exec_supervise_fault hf (by rw [superviseFault_on on, if_neg (not_not.2 w), if_neg (not_not.2 thr), if_pos act])
  · exact exec_supervise_fault hf (by
      rw [superviseFault_on on, if_neg (not_not.2 w), if_neg (not_not.2 thr), if_neg (not_not.2 act), if_pos len])
  · exact exec_supervise_fault hf (by
      rw [superviseFault_on on, if_neg (not_not.2 w), if_neg (not_not.2 thr), if_neg (not_not.2 act), if_neg (not_not.2 len),
        if_pos seed])
  · exact exec_supervise_fault hf (by
      rw [superviseFault_on on, if_neg (not_not.2 w), if_neg (not_not.2 thr), if_neg (not_not.2 act), if_neg (not_not.2 len),
        if_neg (not_not.2 seed), if_pos sel])
  · rw [exec_supervise_good hf (superviseFault_off off), Supervision.configured_off off]
    rfl
  · have good : superviseFault r = none := by
      rw [superviseFault_on on, if_neg (not_not.2 w), if_neg (not_not.2 thr), if_neg (not_not.2 act), if_neg (not_not.2 len),
        if_neg (not_not.2 seed), if_neg (by omega)]
    rw [exec_supervise_good hf good, Supervision.configured_on on]
    rfl

/-! ### PULSE outside CHALLENGE mode (09 R165, R166, R168) -/

theorem Supervision.judgePulse_bad {v : Supervision} (bad : v.bad = true) (resp : Octet) : v.judgePulse resp = .ignored :=
  if_pos bad

theorem Supervision.judgePulse_window {v : Supervision} (window : v.mode = .window) (good : v.bad = false) (resp : Octet) :
    v.judgePulse resp = if v.phase = .second then .goodEnd else .error := by
  rw [Supervision.judgePulse, good, if_neg Bool.false_ne_true, if_pos window]

/-- Q moves at a good end in CHALLENGE mode only. -/
theorem Supervision.goodEnd_window {v : Supervision} (window : v.mode = .window) :
    v.goodEnd = { v.fresh with errorCount := v.errorCount - 1, wordDue := true } := by
  rw [Supervision.goodEnd, window]
  rfl

theorem State.pulse_ignored {s : State} {r : WorkRecord} (on : s.supervision.mode ≠ .off) (bad : s.supervision.bad = true) :
    s.pulse r = (.done, 3, s) := by
  rw [State.pulse, if_neg on, Supervision.judgePulse_bad bad]

/-- Settles O36. -/
theorem pulseOffBadAndWindow : Obligations.PulseOffBadAndWindow := by
  intro s r hf
  refine ⟨fun off => ?_, fun on bad => ?_, fun window good first => ?_, fun window good second => ?_⟩
  · exact exec_pulse hf (u := taken s r) (if_pos off)
  · exact exec_pulse hf (u := taken s r) (State.pulse_ignored (by exact on) (by exact bad))
  · have on : s.supervision.mode ≠ .off := by rw [window]; decide
    exact exec_pulse_error hf on (by rw [Supervision.judgePulse_window window good, first]; rfl)
  · have on : s.supervision.mode ≠ .off := by rw [window]; decide
    rw [exec_pulse_goodEnd hf on (by rw [Supervision.judgePulse_window window good, second]; rfl),
      Supervision.goodEnd_window window]
    rfl

/-! ### The entries of a fallback table (09 9.5, R171) -/

section
variable {w : Word}

theorem parseFallback_outside (h : 119 < (wordByte w 0).toNat) : parseFallback w = .error .badSlot := dif_neg (by omega)

section
variable {target : SlotIndex} (here : (wordByte w 0).toNat = target.val)
include here

/-- The entry of each kind, for a target inside the table. -/
theorem parseFallback_inside {kind : Nat} : (wordByte w 1).toNat = kind → parseFallback w =
    match kind with
    | 0 => .ok { target, source := .none }
    | 1 => match slotIndex? (wordByte w 2).toNat (wordByte w 3).toNat with
      | none => .error .badSlot
      | some k => .ok { target, source := .slot k }
    | 3 => if h : (wordByte w 2).toNat < 8 then .ok { target, source := .scan ⟨(wordByte w 2).toNat, h⟩ } else .error .badField
    | 4 => .ok { target, source := .const (wordByte w 2) }
    | _ => .error .badField := by
  obtain ⟨number, small⟩ := target
  dsimp only at here
  subst here
  rintro rfl
  exact dif_pos small

theorem parseFallback_badKind (kind : (wordByte w 1).toNat = 2 ∨ 4 < (wordByte w 1).toNat) :
    parseFallback w = .error .badField := by
  rcases kind with two | above
  · exact parseFallback_inside here two
  · obtain ⟨n, more⟩ : ∃ n, (wordByte w 1).toNat = n + 5 := ⟨(wordByte w 1).toNat - 5, by omega⟩
    exact parseFallback_inside here more

theorem parseFallback_none (kind : (wordByte w 1).toNat = 0) : parseFallback w = .ok { target, source := .none } :=
  parseFallback_inside here kind

theorem parseFallback_ofSlot (kind : (wordByte w 1).toNat = 1) : parseFallback w =
    match slotIndex? (wordByte w 2).toNat (wordByte w 3).toNat with
    | none => .error .badSlot
    | some k => .ok { target, source := .slot k } := parseFallback_inside here kind

theorem parseFallback_badSlot (kind : (wordByte w 1).toNat = 1)
    (bad : 3 < (wordByte w 2).toNat ∨ (wordByte w 3).toNat < 2 ∨ 31 < (wordByte w 3).toNat) :
    parseFallback w = .error .badSlot := by
  rw [parseFallback_ofSlot here kind, slotIndex?_none bad]

theorem parseFallback_slot {k : SlotIndex} (kind : (wordByte w 1).toNat = 1)
    (port : (wordByte w 2).toNat = (SlotIndex.port k).val) (slot : (wordByte w 3).toNat = (SlotIndex.slot k).val) :
    parseFallback w = .ok { target, source := .slot k } := by
  rw [parseFallback_ofSlot here kind, slotIndex?_of port slot]

theorem parseFallback_badGroup (kind : (wordByte w 1).toNat = 3) (bad : 7 < (wordByte w 2).toNat) :
    parseFallback w = .error .badField := (parseFallback_inside here kind).trans (dif_neg (by omega))

theorem parseFallback_scan {g : GroupNo} (kind : (wordByte w 1).toNat = 3) (group : (wordByte w 2).toNat = g.val) :
    parseFallback w = .ok { target, source := .scan g } := by
  obtain ⟨number, small⟩ := g
  dsimp only at group
  subst group
  exact (parseFallback_inside here kind).trans (dif_pos small)

theorem parseFallback_const (kind : (wordByte w 1).toNat = 4) :
    parseFallback w = .ok { target, source := .const (wordByte w 2) } := parseFallback_inside here kind

end
end

/-! ### SET_FALLBACK (09 R171) -/

/-- Good entries with new targets leave the rest to be checked after them. -/
theorem checkFallback_passed {f : Nat → Word} {before es : List FallbackEntry} (k : Nat) (rest : List Word)
    (good : ∀ i (hi : i < es.length), parseFallback (f i) = .ok es[i]) (nodup : ((before ++ es).map fun e => e.target).Nodup) :
    checkFallback k before ((List.range es.length).map f ++ rest) = checkFallback (k + es.length) (before ++ es) rest := by
  induction es generalizing k before f with
  | nil => rw [List.append_nil]; rfl
  | cons e es ih =>
    have new : ¬ (before.any fun b => b.target == e.target) = true := fun old => by
      obtain ⟨b, hb, same⟩ := List.any_eq_true.1 old
      rw [List.map_append, List.nodup_append] at nodup
      exact nodup.2.2 _ (List.mem_map_of_mem hb) _ (List.mem_map_of_mem List.mem_cons_self) (beq_iff_eq.1 same)
    have parsed : parseFallback (f 0) = .ok e := good 0 (Nat.zero_lt_succ _)
    rw [List.length_cons, List.range_succ_eq_map, List.map_cons, List.map_map, List.cons_append, checkFallback, parsed]
    dsimp only
    rw [if_neg new, ih (f := f ∘ Nat.succ) (k + 1) (fun i hi => good (i + 1) (Nat.succ_lt_succ hi))
      (by rwa [List.append_assoc, List.singleton_append]), List.append_assoc, List.singleton_append,
      Nat.add_assoc, Nat.add_comm 1]

theorem checkFallback_bad {w : Word} {o : OutcomeCode} (h : parseFallback w = .error o) (k : Nat) (before : List FallbackEntry)
    (rest : List Word) : checkFallback k before (w :: rest) = .error (o, octet k) := by
  rw [checkFallback, h]

theorem checkFallback_duplicate {w : Word} {e : FallbackEntry} (h : parseFallback w = .ok e) {before : List FallbackEntry}
    (again : e.target ∈ before.map fun e => e.target) (k : Nat) (rest : List Word) :
    checkFallback k before (w :: rest) = .error (.duplicate, octet k) := by
  obtain ⟨b, hb, same⟩ := List.mem_map.1 again
  rw [checkFallback, h]
  exact if_pos (List.any_eq_true.2 ⟨b, hb, by rw [same]; exact beq_self_eq_true _⟩)

/-- The first entry that fails, by its place. -/
theorem checkFallback_first {f : Nat → Word} {es : List FallbackEntry} {count : Nat} {e : OutcomeCode × Octet}
    (more : es.length < count) (good : ∀ i (hi : i < es.length), parseFallback (f i) = .ok es[i])
    (nodup : (es.map fun e => e.target).Nodup)
    (fails : ∀ rest, checkFallback (1 + es.length) es (f es.length :: rest) = .error e) :
    checkFallback 1 [] ((List.range count).map f) = .error e := by
  obtain ⟨n, rfl⟩ : ∃ n, count = es.length + (n + 1) := ⟨count - es.length - 1, by omega⟩
  rw [List.range_add, List.map_append, checkFallback_passed (before := []) 1 _ good nodup, List.nil_append,
    List.range_succ_eq_map, List.map_cons, List.map_cons]
  exact fails _

section
variable {s : State} {r : WorkRecord} (hf : Found s .setFallback r)
include hf

theorem exec_setFallback_refused {o : OutcomeCode} {d : Octet} (answer : (taken s r).setFallback r = (o, d, taken s r)) :
    exec .setFallback s = .next (ended s r o d) :=
  take_refuses (k := .setFallback) hf (by decide) answer

section
variable (off : s.supervision.fallback = false) (count : (r.byte 0 0).toNat ≤ 32)
  (length : 1 + (r.byte 0 0).toNat ≤ r.body.length)
include off count length

omit hf in
theorem State.setFallback_checked : (taken s r).setFallback r =
    match checkFallback 1 [] ((List.range (r.byte 0 0).toNat).map fun k => r.word (1 + k)) with
    | .error (o, detail) => (o, detail, taken s r)
    | .ok t => (.done, octet (r.byte 0 0).toNat, (taken s r).onSupervision fun v => { v with table := t }) :=
  (if_neg (by rw [show (taken s r).supervision.fallback = false from off]; exact Bool.false_ne_true)).trans
    ((if_neg (by omega)).trans (if_neg (by omega)))

theorem exec_setFallback_failed {o : OutcomeCode} {d : Octet}
    (h : checkFallback 1 [] ((List.range (r.byte 0 0).toNat).map fun k => r.word (1 + k)) = .error (o, d)) :
    exec .setFallback s = .next (ended s r o d) :=
  exec_setFallback_refused hf (by rw [State.setFallback_checked off count length, h])

theorem exec_setFallback_good {es : List FallbackEntry}
    (h : checkFallback 1 [] ((List.range (r.byte 0 0).toNat).map fun k => r.word (1 + k)) = .ok es) :
    exec .setFallback s =
      .next { ended s r .done (octet (r.byte 0 0).toNat) with supervision := { s.supervision with table := es } } :=
  take_answers (k := .setFallback) hf (by decide) (own := State.setFallback) (o := .done) (d := octet (r.byte 0 0).toNat)
    (u := (taken s r).onSupervision fun v => { v with table := es })
    (by rw [State.setFallback_checked off count length, h])

end
end

/-! ### FALLBACK_CONTROL (09 R172 to R174) -/

section
variable {s : State} {r : WorkRecord} (hf : Found s .fallbackControl r)
include hf

theorem fallbackAction_of {code : Octet} (h : r.byte 0 0 = code ∨ (r.byte 0 0 ≠ 1 ∧ r.byte 0 0 ≠ 2)) :
    fallbackAction code r = true :=
  Bool.and_eq_true_iff.2 ⟨isKind_of _ r hf.2.2, Bool.or_eq_true_iff.2 (h.imp beq_iff_eq.2 fun ⟨one, two⟩ =>
    Bool.and_eq_true_iff.2 ⟨bne_iff_ne.2 one, bne_iff_ne.2 two⟩)⟩

/-- Only a RECOVER while FALLBACK is set asks for the pending-change slot. -/
theorem ownerFull_fallbackControl (h : r.byte 0 0 ≠ 2 ∨ s.supervision.fallback = false ∨ s.switch.slot = none) :
    s.ownerFull r = false := by
  refine State.ownerFull_of ?_ (State.outboundFull_none hf.2.2 (by decide) (by decide))
  unfold State.collectionFull
  rw [hf.2.2]
  rcases h with other | clear | empty
  · dsimp only
    rw [show r.action 2 = false from beq_eq_false_iff_ne.2 other]
    rfl
  · simp [clear]
  · simp [empty]

theorem exec_enter (h : r.byte 0 0 ≠ 2) (mine : r.byte 0 0 = 1 ∨ (r.byte 0 0 ≠ 1 ∧ r.byte 0 0 ≠ 2)) :
    exec .enter s = .next ((taken s r).takeEnter r) :=
  take_next s .fallbackControl r _ _ hf (fallbackAction_of hf mine) (ownerFull_fallbackControl hf (.inl h))

theorem exec_recover (h : r.byte 0 0 ≠ 2 ∨ s.supervision.fallback = false ∨ s.switch.slot = none)
    (mine : r.byte 0 0 = 2 ∨ (r.byte 0 0 ≠ 1 ∧ r.byte 0 0 ≠ 2)) :
    exec .recover s = .next ((taken s r).takeRecover r) :=
  take_next s .fallbackControl r _ _ hf (fallbackAction_of hf mine) (ownerFull_fallbackControl hf h)

end

section
variable {s : State} {r : WorkRecord}

theorem State.takeEnter_other (h : r.byte 0 0 ≠ 1) : s.takeEnter r = s.endTake r.held .badField 0 :=
  if_neg (fun one => h (beq_iff_eq.1 one))

theorem State.takeEnter_answers (h : r.byte 0 0 = 1) :
    s.takeEnter r = (s.enterFallback.2.2).endTake r.held s.enterFallback.1 s.enterFallback.2.1 :=
  if_pos (beq_iff_eq.2 h)

theorem State.enterFallback_set (h : s.supervision.fallback = true) : s.enterFallback = (.state, 0, s) := if_pos h

theorem State.enterFallback_clear (h : s.supervision.fallback = false) : s.enterFallback =
    (.done, octet s.supervision.table.length, { withCause s .supervision with
      supervision := { s.supervision with fallback := true, wordDue := true }
      switch := { s.switch with overlayOrder := true } }) :=
  if_neg (by rw [h]; exact Bool.false_ne_true)

theorem State.takeRecover_other (h : r.byte 0 0 ≠ 2) : s.takeRecover r = s.endTake r.held .badField 0 :=
  if_neg (fun two => h (beq_iff_eq.1 two))

theorem State.takeRecover_clear (h : r.byte 0 0 = 2) (clear : s.supervision.fallback = false) :
    s.takeRecover r = s.endTake r.held .state 0 :=
  (if_pos (beq_iff_eq.2 h)).trans (if_neg (by rw [clear]; exact Bool.false_ne_true))

theorem State.takeRecover_set (h : r.byte 0 0 = 2) (set_ : s.supervision.fallback = true) :
    s.takeRecover r = s.keepChange r .recover :=
  (if_pos (beq_iff_eq.2 h)).trans (if_pos set_)

end

/-- Settles O38. -/
theorem fallbackRecordsTaken : Obligations.FallbackRecordsTaken := by
  refine ⟨fun s r hf => ⟨fun set_ => ?_, fun off above => ?_, fun off count short => ?_,
      fun es off count length all good nodup => ?_, fun es off count length more good nodup => ⟨fun o bad => ?_, fun e parsed again => ?_⟩⟩,
    fun w => ⟨parseFallback_outside, fun target here => ⟨parseFallback_badKind here, parseFallback_none here,
      parseFallback_badSlot here, fun k => parseFallback_slot here, parseFallback_badGroup here, fun g => parseFallback_scan here,
      parseFallback_const here⟩⟩,
    fun s r hf => ⟨fun c hc one two => ?_, fun one set_ => ?_, fun one clear => ?_, fun two clear => ?_, fun two set_ empty => ?_⟩⟩
  · exact exec_setFallback_refused hf (if_pos set_)
  · exact exec_setFallback_refused hf
      ((if_neg (by rw [show (taken s r).supervision.fallback = false from off]; exact Bool.false_ne_true)).trans (if_pos above))
  · exact exec_setFallback_refused hf
      ((if_neg (by rw [show (taken s r).supervision.fallback = false from off]; exact Bool.false_ne_true)).trans
        ((if_neg (by omega)).trans (if_pos short)))
  · have checked := checkFallback_passed (f := fun k => r.word (1 + k)) (before := []) 1 [] good nodup
    rw [all, List.append_nil, List.nil_append] at checked
    rw [exec_setFallback_good hf off count length checked, octet, BitVec.ofNat_toNat, BitVec.setWidth_eq]
  · rw [Nat.add_comm es.length]
    exact exec_setFallback_failed hf off count length
      (checkFallback_first (f := fun k => r.word (1 + k)) more good nodup fun rest => checkFallback_bad bad _ _ rest)
  · rw [Nat.add_comm es.length]
    exact exec_setFallback_failed hf off count length
      (checkFallback_first (f := fun k => r.word (1 + k)) more good nodup fun rest => checkFallback_duplicate parsed again _ rest)
  · rcases List.mem_pair.1 hc with rfl | rfl
    · rw [exec_enter hf two (.inr ⟨one, two⟩), State.takeEnter_other one]
      rfl
    · rw [exec_recover hf (.inl two) (.inr ⟨one, two⟩), State.takeRecover_other two]
      rfl
  · rw [exec_enter hf (by rw [one]; decide) (.inl one), State.takeEnter_answers one, State.enterFallback_set (by exact set_)]
    rfl
  · rw [exec_enter hf (by rw [one]; decide) (.inl one), State.takeEnter_answers one, State.enterFallback_clear (by exact clear)]
    rfl
  · rw [exec_recover hf (.inr (.inl clear)) (.inl two), State.takeRecover_clear two (by exact clear)]
    rfl
  · rw [exec_recover hf (.inr (.inr empty)) (.inl two), State.takeRecover_set two (by exact set_)]
    rfl

end Sys2Proof.Machine
end

section
/-! PROOFS. The periods of supervision: their advance, the turn of the phase, the bad end with its trip, and the release of
RESET_OUT. -/

namespace Sys2Proof.Machine

section
variable {v : Supervision}

/-! ### The advance of a period (09 R164) -/

theorem Supervision.advance_due (due : v.advanceDue = true) (first : v.position + 1 ≠ v.period * 32)
    (more : v.position + 1 < v.period * 64) : v.advance = { v with position := v.position + 1, advanceDue := false } :=
  if_pos ⟨due, first, more⟩

theorem Supervision.turnPhase_due (due : v.advanceDue = true) (half : v.position + 1 = v.period * 32) :
    v.turnPhase = { v with position := v.position + 1, phase := .second, wordDue := true, advanceDue := false } :=
  if_pos ⟨due, half⟩

theorem Supervision.turnPhase_not (h : v.advanceDue = false ∨ v.position + 1 ≠ v.period * 32) : v.turnPhase = v :=
  if_neg fun ⟨due, half⟩ => h.elim (fun off => by rw [off] at due; cases due) fun other => other half

/-! ### RESET_OUT (09 R170) -/

theorem Supervision.releaseReset_last {n : Nat} (on : v.resetOut = some n) (tick : v.resetTick = true) (last : n ≤ 1) :
    v.releaseReset = { v with resetOut := none, resetTick := false } := by
  rw [Supervision.releaseReset, on]
  exact if_pos ⟨tick, last⟩

theorem Supervision.releaseReset_not {n : Nat} (on : v.resetOut = some n) (h : v.resetTick = false ∨ 2 ≤ n) :
    v.releaseReset = v := by
  rw [Supervision.releaseReset, on]
  exact if_neg fun ⟨tick, last⟩ => h.elim (fun off => by rw [off] at tick; cases tick) fun more => by omega

/-! ### The bad end (09 R168 to R170) -/

theorem Supervision.trips_iff : v.trips = true ↔ v.risen ≠ v.errorCount ∧ v.risen = v.threshold ∧ v.fallback = false := by
  simp [Supervision.trips, and_assoc]

end

section
variable {s : State}

theorem State.endBad_trips (trips : s.supervision.trips = true) : s.endBad = { withCause s .supervision with
    switch := { s.switch with overlayOrder := true }
    supervision := s.supervision.badEnd.trip } := by
  unfold State.endBad
  dsimp only
  rw [trips, State.raiseIf_eq, if_pos (bne_iff_ne.2 (Supervision.trips_iff.1 trips).1)]
  rfl

theorem State.endBad_calm (calm : ¬ s.supervision.trips = true) : s.endBad =
    { (if s.supervision.risen = s.supervision.errorCount then s else withCause s .supervision) with
      supervision := s.supervision.badEnd } := by
  unfold State.endBad
  dsimp only
  rw [State.raiseIf_eq, if_neg calm]
  by_cases same : s.supervision.risen = s.supervision.errorCount
  · rw [if_pos same, if_neg (by rw [bne_iff_ne]; exact not_not.2 same)]
    rfl
  · rw [if_neg same, if_pos (bne_iff_ne.2 same)]
    rfl

theorem State.periodEnd_not (h : s.supervision.advanceDue = false ∨ s.supervision.position + 1 < s.supervision.period * 64) :
    s.periodEnd = s :=
  if_neg fun ⟨due, ends⟩ => h.elim (fun off => by rw [off] at due; cases due) fun more => by omega

end

/-! ### The commands -/

section
variable (s : State) (hp : s.regs.poreset = false)
include hp

theorem exec_phaseSecond : exec .phaseSecond s = .next (s.onSupervision Supervision.turnPhase) :=
  whileReleased_next s (fun s => s.onSupervision Supervision.turnPhase) hp

theorem exec_periodEnd : exec .periodEnd s = .next s.periodEnd := whileReleased_next s State.periodEnd hp

theorem exec_resetOutRelease : exec .resetOutRelease s = .next (s.onSupervision Supervision.releaseReset) :=
  whileReleased_next s (fun s => s.onSupervision Supervision.releaseReset) hp

end

theorem State.onSupervision_eq (s : State) (f : Supervision → Supervision) :
    s.onSupervision f = { s with supervision := f s.supervision } := rfl

/-- Settles O52. -/
theorem periodsAndTrip : Obligations.PeriodsAndTrip := by
  intro s hp
  refine ⟨fun due first more => ?_, fun due half => ?_, fun h => ?_, fun due ends calm => ?_, fun due ends trips => ?_, fun h => ?_,
    fun n on tick last => ?_, fun n on h => ?_⟩
  · rw [exec_doWork s _ hp, show (s.setBus {}).doWork .period = (s.setBus {}).onSupervision Supervision.advance from rfl,
      State.onSupervision_eq, Supervision.advance_due (v := (s.setBus {}).supervision) due first more]
    rfl
  · rw [exec_phaseSecond s hp, State.onSupervision_eq, Supervision.turnPhase_due due half]
  · rw [exec_phaseSecond s hp, State.onSupervision_eq, Supervision.turnPhase_not h]
  · rw [exec_periodEnd s hp, s.periodEnd_due due ends, State.endBad_calm (mt Supervision.trips_iff.1 calm)]
    rfl
  · rw [exec_periodEnd s hp, s.periodEnd_due due ends, State.endBad_trips (Supervision.trips_iff.2 trips), Supervision.trip_eq]
    rfl
  · rw [exec_periodEnd s hp, State.periodEnd_not h]
  · rw [exec_resetOutRelease s hp, State.onSupervision_eq, Supervision.releaseReset_last on tick last]
  · rw [exec_resetOutRelease s hp, State.onSupervision_eq, Supervision.releaseReset_not on h]

end Sys2Proof.Machine
end

section
/-! PROOFS. The edge of a frame boundary: that the frame number stays until it comes, and what it leaves at every block. -/

namespace Sys2Proof.Machine

/-! ### The frame number stays while what is left is done -/

theorem State.OnlyMemory.timer {s t : State} (h : s.OnlyMemory t) : t.timer = s.timer := by rw [h.rest]

section
variable (s : State)

theorem State.haltEvent_timer (reason : HaltReason) : (s.haltEvent reason).timer = s.timer := by
  unfold State.haltEvent
  split
  · rfl
  · split <;> rfl

theorem State.lookFails_timer : (s.endWalk .idle).busHalt.timer = s.timer := State.haltEvent_timer _ _

theorem State.lookBody_timer (off : Offset) (header : Word) : (s.lookBody off header).timer = s.timer := by
  have only := s.readWords_only (wordByte header 3).toNat (off + 16)
  unfold State.lookBody
  split
  · next t e =>
    rw [e] at only
    exact t.lookFails_timer.trans only.timer
  · next body t e =>
    rw [e] at only
    refine Eq.trans ?_ only.timer
    dsimp only
    split <;> rfl

theorem State.lookRecord_timer (off : Offset) : (s.lookRecord off).timer = s.timer := by
  have only := s.readWord_only off
  unfold State.lookRecord
  split
  · next t e =>
    rw [e] at only
    exact t.lookFails_timer.trans only.timer
  · next header t e =>
    rw [e] at only
    refine Eq.trans ?_ only.timer
    split
    · rfl
    · have only := t.readWords_only 3 (off + 4)
      split
      · next u e =>
        rw [e] at only
        exact u.lookFails_timer.trans only.timer
      · next u e =>
        rw [e] at only
        refine Eq.trans ?_ only.timer
        split
        · rfl
        · exact u.lookBody_timer off header

theorem State.look_timer : s.look.timer = s.timer := by
  have only := s.readWord_only s.walker.linkOffset
  unfold State.look
  split
  · next t e =>
    rw [e] at only
    exact t.lookFails_timer.trans only.timer
  · next link t e =>
    rw [e] at only
    refine Eq.trans ?_ only.timer
    split
    · rfl
    · split
      · exact State.haltEvent_timer _ _
      · exact t.lookRecord_timer _

theorem State.walkWork_timer : s.walkWork.timer = s.timer := by
  unfold State.walkWork
  dsimp only
  split
  · split
    · exact State.look_timer _
    · rfl
  · rfl

theorem State.settle_number : s.settle.timer.number = s.timer.number := by
  unfold State.settle
  dsimp only
  exact (congrArg FrameTimer.number (State.walkWork_timer _)).trans s.settleRest_keeps.number

/-- What is left of the old boundary at the edge. -/
def State.settled (s : State) : State := allPorts.foldl State.settleLine s.settle

theorem State.settled_number : s.settled.timer.number = s.timer.number := by
  unfold State.settled
  rw [(State.Keeps.foldl State.settleLine_keeps allPorts s.settle).number, s.settle_number]

end

/-! ### The edge at the ports (02 R27, R33, R34) -/

theorem State.sentFrame_congr {s t : State} {p : Port} (line : t.lines[p] = s.lines[p]) (out : t.switch.out = s.switch.out) :
    t.sentFrame p = s.sentFrame p := by
  unfold State.sentFrame
  rw [line, out]

/-- The edge at one port after another: each port by itself. -/
theorem State.edgePorts_each (ps : List Port) (nodup : ps.Nodup) (s : State) :
    ps.foldl State.edgePort s = { s with lines := (ps.foldl State.edgePort s).lines, channels := (ps.foldl State.edgePort s).channels } ∧
    ∀ p : Port, (ps.foldl State.edgePort s).lines[p] = (if p ∈ ps then s.lines[p].edge (s.sentFrame p) else s.lines[p]) ∧
      (ps.foldl State.edgePort s).channels[p] = if p ∈ ps then s.channels[p].tick else s.channels[p] := by
  induction ps generalizing s with
  | nil => exact ⟨rfl, fun p => ⟨rfl, rfl⟩⟩
  | cons q ps ih =>
    obtain ⟨new, nodup⟩ := List.nodup_cons.1 nodup
    obtain ⟨rest, each⟩ := ih nodup (s.edgePort q)
    rw [List.foldl_cons]
    generalize ps.foldl State.edgePort (s.edgePort q) = t at rest each ⊢
    refine ⟨rest, fun p => ?_⟩
    obtain ⟨line, channel⟩ := each p
    have lines : (s.edgePort q).lines = updAt s.lines q fun l => l.edge (s.sentFrame q) := rfl
    have channels : (s.edgePort q).channels = updAt s.channels q Channel.tick := rfl
    rw [line, channel]
    by_cases here : q = p
    · subst here
      rw [if_neg new, if_neg new, if_pos List.mem_cons_self, if_pos List.mem_cons_self, lines, channels, updAt_same, updAt_same]
      exact ⟨rfl, rfl⟩
    · have same : (s.edgePort q).lines[p] = s.lines[p] := by rw [lines, updAt_other _ _ _ _ here]
      rw [State.sentFrame_congr same rfl, same, channels, updAt_other _ _ _ _ here]
      simp [List.mem_cons, Ne.symm here]

theorem State.edgePorts_eq (s : State) : allPorts.foldl State.edgePort s = { s with
    lines := tabulate 4 fun p => s.lines[p].edge (s.sentFrame p)
    channels := mapAll Channel.tick s.channels } := by
  obtain ⟨rest, each⟩ := State.edgePorts_each allPorts (by decide) s
  have lines : (allPorts.foldl State.edgePort s).lines = tabulate 4 fun p => s.lines[p].edge (s.sentFrame p) :=
    vector_ext _ _ fun p => by rw [(each p).1, if_pos (mem_allPorts p), tabulate_get]
  have channels : (allPorts.foldl State.edgePort s).channels = mapAll Channel.tick s.channels :=
    vector_ext _ _ fun p => by rw [(each p).2, if_pos (mem_allPorts p), mapAll_get]
  rw [rest, lines, channels]

/-- The frame that a line unit presents at the edge may have come round the loop. -/
def LineUnit.looped (l : LineUnit) (sent : Option Frame) : Option Frame := if l.loop ∧ l.tx.loop ∧ l.loopArrived then sent else none

theorem LineUnit.looped_none {l : LineUnit} (h : l.loop = false) (sent : Option Frame) : l.looped sent = none :=
  if_neg fun round => by rw [h] at round; exact absurd round.1 Bool.false_ne_true

/-- The peer code counted at the edge is that of the frame presented. -/
def LineUnit.presented (l : LineUnit) (sent : Option Frame) : LineUnit := { l with rx := l.rx.present (l.looped sent) }

theorem LineUnit.edge_eq (l : LineUnit) (sent : Option Frame) : l.edge sent = { l with
    rx := l.rx.present (l.looped sent)
    loopArrived := false
    tx := { l.tx with line := l.line, loop := l.loop }
    identifyTimer := l.identifyTimer.map (· + 1)
    lostTimer := l.lostTimer.map (· + 1)
    wakeCount := (l.presented sent).countPeer.wakeCount
    quietCount := (l.presented sent).countPeer.quietCount
    peerSeen := (l.presented sent).countPeer.peerSeen
    seen := l.line == .linked && decide ((l.presented sent).countPeer.quietCount < 4) } := by
  unfold LineUnit.edge LineUnit.countPeer LineUnit.presented LineUnit.looped
  dsimp only
  split
  · split <;> rfl
  · rfl

section
variable {r : PortReceiver}

theorem PortReceiver.present_idle (h : r.status ≠ .aligned) (looped : Option Frame) :
    (r.present looped).presented = Vector.replicate 32 0xFF := by
  unfold PortReceiver.present
  split
  · next aligned => exact absurd aligned h
  all_goals rfl

theorem PortReceiver.present_aligned (h : r.status = .aligned) (looped : Option Frame) :
    (r.present looped).presented = (looped <|> r.latest).getD r.presented := by
  unfold PortReceiver.present
  rw [h]

end

/-! ### The edge at the other blocks -/

theorem StreamStatus.waits_eq (status : StreamStatus) : status.waits = decide (status = .stalled ∨ status = .muted) := by
  cases status <;> rfl

theorem Stream.edge_eq (t : Stream) (block : Bool) : t.edge block = { t with
    frameDue := t.desc.isSome
    desc := t.desc.map fun d => { d with
      resumeDue := block && decide (d.status = .stalled ∨ d.status = .muted)
      accesses := d.accesses.map StreamAccess.late } } := by
  unfold Stream.edge
  simp only [StreamStatus.waits_eq]

theorem FrameTimer.edge_block (t : FrameTimer) : (t.edge.number == 0) = (t.number == 63) :=
  (by decide : ∀ n : Fin 64, (n + 1 == 0) = (n == 63)) t.number

theorem FrameTimer.edge_eq (t : FrameTimer) :
    t.edge = { number := t.number + 1, blockDue := t.number == 63, scanDue := t.number == 31 } := by
  rw [← t.edge_block, ← (by decide : ∀ n : Fin 64, (n + 1 == 32) = (n == 31)) t.number]
  rfl

/-- What the boundary makes due beside the ports, where it is a block boundary or not. -/
theorem State.makeDue_eq (s : State) : s.makeDue = { s with
    streams := mapAll (fun t => t.edge s.atBlock) s.streams
    walker := { s.walker with walkDue := s.canWalk }
    switch := { s.switch with
      changeDue := s.switch.slot.isSome, overlayDue := s.switch.overlayOrder, formDue := true, sourcesDue := true }
    activity := { s.activity with judgeDue := true, classifyDue := s.atBlock, counted := Vector.replicate 120 false }
    router := { s.router with
      retryDue := mapAll Option.isSome s.router.waits
      probes := s.router.probes.map fun e => { e with tickDue := s.atBlock } }
    supervision := { s.supervision with
      advanceDue := s.supervision.mode != .off && s.regs.run
      resetTick := s.atBlock && s.supervision.resetOut.isSome } } := rfl

theorem State.edge_unfold (s : State) :
    s.edge = (allPorts.foldl State.edgePort (s.settled.onTimer FrameTimer.edge)).makeDue := by
  unfold State.edge State.settled
  rfl

/-- The edge, from the state in which what was left of the old boundary is done. -/
def State.edgeOf (u : State) : State :=
  { u with
    timer := u.timer.edge
    lines := tabulate 4 fun p => u.lines[p].edge (u.sentFrame p)
    channels := mapAll Channel.tick u.channels
    streams := mapAll (fun t => t.edge (u.timer.number == 63)) u.streams
    walker := { u.walker with walkDue := u.canWalk }
    switch := { u.switch with
      changeDue := u.switch.slot.isSome, overlayDue := u.switch.overlayOrder, formDue := true, sourcesDue := true }
    activity := { u.activity with judgeDue := true, classifyDue := u.timer.number == 63, counted := Vector.replicate 120 false }
    router := { u.router with
      retryDue := mapAll Option.isSome u.router.waits
      probes := u.router.probes.map fun e => { e with tickDue := u.timer.number == 63 } }
    supervision := { u.supervision with
      advanceDue := u.supervision.mode != .off && u.regs.run
      resetTick := u.timer.number == 63 && u.supervision.resetOut.isSome } }

section
variable (u : State)

theorem State.edgeOf_line (p : Port) : (u.edgeOf.setBus {}).lines[p] = u.lines[p].edge (u.sentFrame p) := tabulate_get _ _ p

theorem State.edgeOf_channel (p : Port) : (u.edgeOf.setBus {}).channels[p] = u.channels[p].tick := mapAll_get _ _ p

theorem State.edgeOf_stream (n : StreamNo) : (u.edgeOf.setBus {}).streams[n] = u.streams[n].edge (u.timer.number == 63) :=
  mapAll_get _ _ n

theorem State.edgeOf_retryDue (p : Port) : (u.edgeOf.setBus {}).router.retryDue[p] = u.router.waits[p].isSome :=
  mapAll_get _ _ p

end

theorem State.makeDue_edgePorts (u : State) : (allPorts.foldl State.edgePort (u.onTimer FrameTimer.edge)).makeDue = u.edgeOf := by
  unfold State.edgeOf
  rw [State.edgePorts_eq, State.makeDue_eq, ← u.timer.edge_block]
  rfl

theorem State.edge_eq (s : State) : s.edge = s.settled.edgeOf := by
  rw [s.edge_unfold, State.makeDue_edgePorts]

theorem State.doWork_passed (s : State) : s.doWork .passed = s.settle.onTimer fun t => { t with passed := true } := rfl

theorem State.passes_eq (s : State) : (s.onTimer fun t => { t with passed := true }).setBus {} =
    { s with bus := {}, timer := { s.timer with passed := true } } := rfl

section
variable (s : State) (bus : List BusCycle) (hp : s.regs.poreset = false)
include hp

theorem exec_frameEdge : exec (.frameBoundary true [] bus) s =
    .next ((s.setBus { cycles := bus, cut := false }).settled.edgeOf.setBus {}) := by
  rw [← State.edge_eq]
  exact whileReleasedBus_next s bus (fun s => [].foldl State.doWork (if true then s.edge else s)) hp

theorem exec_frameStays : exec (.frameBoundary false [] bus) s = .next (s.setBus {}) :=
  whileReleasedBus_next s bus (fun s => [].foldl State.doWork (if false then s.edge else s)) hp

theorem exec_doWorkBus (w : BoundaryWork) : exec (.frameBoundary false [w] bus) s =
    .next (((s.setBus { cycles := bus, cut := false }).doWork w).setBus {}) :=
  whileReleasedBus_next s bus (fun s => [w].foldl State.doWork s) hp

theorem exec_framePasses {u : State} (h : (s.setBus { cycles := bus, cut := false }).settle = u) :
    exec (.frameBoundary false [.passed] bus) s = .next { u with bus := {}, timer := { u.timer with passed := true } } := by
  rw [exec_doWorkBus s bus hp, State.doWork_passed, h, State.passes_eq]

end

/-- Settles O39. -/
theorem edgeMakesWorkDue : Obligations.EdgeMakesWorkDue := by
  refine ⟨fun s bus hp => ?_, fun s bus hp => ⟨exec_frameStays s bus hp, ?_⟩⟩
  · have fed : ({ s with bus := { cycles := bus } } : State) = s.setBus { cycles := bus, cut := false } := rfl
    rw [fed, ← State.settled]
    have number := (s.setBus { cycles := bus, cut := false }).settled_number
    have edge_ := exec_frameEdge s bus hp
    generalize (s.setBus { cycles := bus, cut := false }).settled = u at number edge_ ⊢
    rw [State.setBus_timer] at number
    rw [← number]
    refine ⟨_, edge_, u.timer.edge_eq, rfl, rfl, rfl, rfl, rfl, rfl, rfl, fun n => ?_, fun p => ⟨?_, ?_, u.edgeOf_retryDue p, ?_⟩,
      rfl, rfl, fun n => ?_, fun p => ⟨?_, fun idle => ?_, fun aligned => ⟨fun f loop sent arrived frame => ?_,
        fun f open_ latest => ?_, fun open_ none_ => ?_⟩, ?_, ?_⟩⟩
    · rw [u.edgeOf_stream n]
      exact Option.isSome_map.symm
    · rw [u.edgeOf_channel p]
      rfl
    · rw [u.edgeOf_channel p]
      rfl
    · rw [u.edgeOf_line p, LineUnit.edge_eq]
    · rw [u.edgeOf_stream n, Stream.edge_eq]
      rfl
    · rw [u.edgeOf_line p, LineUnit.edge_eq]
      rfl
    · rw [u.edgeOf_line p, LineUnit.edge_eq, PortReceiver.present_idle idle]
    · rw [u.edgeOf_line p, LineUnit.edge_eq, PortReceiver.present_aligned aligned, LineUnit.looped,
        if_pos ⟨loop, sent, arrived⟩, frame]
      rfl
    · rw [u.edgeOf_line p, LineUnit.edge_eq, PortReceiver.present_aligned aligned, LineUnit.looped_none open_,
        latest]
      rfl
    · rw [u.edgeOf_line p, LineUnit.edge_eq, PortReceiver.present_aligned aligned, LineUnit.looped_none open_,
        none_]
      rfl
    · rw [u.edgeOf_line p, LineUnit.edge_eq]
      exact ⟨rfl, rfl, rfl⟩
    · rw [u.edgeOf_line p, LineUnit.edge_eq, u.edgeOf_channel p]
      exact ⟨rfl, rfl, rfl, rfl, rfl, rfl, rfl, rfl⟩
  · intro u
    have same : (s.setBus { cycles := bus, cut := false }).settle = u := rfl
    clear_value u
    exact exec_framePasses s bus hp same

end Sys2Proof.Machine
end

section
/-! PROOFS. Edit lists: the fields of an edit, the checks on it and on a list, and a held list carried out at its boundary. -/

namespace Sys2Proof.Machine

/-! ### The words of an edit (03 R56, checks 1 to 5) -/

/-- The edit that two words ask for, its target, action and source apart. -/
def editOf (w v : Word) (target : SlotIndex) (put : Bool) (source : Source) : Edit :=
  { target, put, cls := if (wordByte w 3).getLsbD 0 then .urgent else .normal, override := (wordByte w 3).getLsbD 1, source,
    tag := wordByte v 3 }

section
variable {w v : Word}

theorem parseEdit_outside (h : 3 < (wordByte w 0).toNat ∨ (wordByte w 1).toNat < 2 ∨ 31 < (wordByte w 1).toNat) :
    parseEdit (w, v) = .error .badSlot := by
  unfold parseEdit
  rw [slotIndex?_none h]

section
variable {target : SlotIndex} (port : (wordByte w 0).toNat = (SlotIndex.port target).val)
  (slot : (wordByte w 1).toNat = (SlotIndex.slot target).val)
include port slot

theorem parseEdit_badAction (one : (wordByte w 2).toNat ≠ 1) (two : (wordByte w 2).toNat ≠ 2) :
    parseEdit (w, v) = .error .badField := by
  unfold parseEdit
  rw [slotIndex?_of port slot]
  exact (if_neg two).trans (if_pos one)

theorem parseEdit_clear (two : (wordByte w 2).toNat = 2) : parseEdit (w, v) = .ok (editOf w v target false .none) := by
  unfold parseEdit
  rw [slotIndex?_of port slot]
  exact if_pos two

section
variable (one : (wordByte w 2).toNat = 1)
include one

/-- The source of each kind that an edit may put. -/
theorem parseEdit_put {kind : Nat} : (wordByte v 0).toNat = kind → parseEdit (w, v) =
    match kind with
    | 0 => .ok (editOf w v target true .none)
    | 1 => match slotIndex? (wordByte v 1).toNat (wordByte v 2).toNat with
      | none => .error .badSlot
      | some k => .ok (editOf w v target true (.slot k))
    | 2 => if h : (wordByte v 1).toNat < 16 then .ok (editOf w v target true (.stream ⟨(wordByte v 1).toNat, h⟩)) else .error .badField
    | 3 => if h : (wordByte v 1).toNat < 8 then .ok (editOf w v target true (.scan ⟨(wordByte v 1).toNat, h⟩)) else .error .badField
    | 4 => .ok (editOf w v target true (.const (wordByte v 1)))
    | _ => .error .badField := by
  rintro rfl
  unfold parseEdit
  rw [slotIndex?_of port slot]
  exact (if_neg (show ¬ (wordByte w 2).toNat = 2 by omega)).trans (if_neg (not_not.2 one))

theorem parseEdit_badKind (kind : 4 < (wordByte v 0).toNat) : parseEdit (w, v) = .error .badField := by
  obtain ⟨n, more⟩ : ∃ n, (wordByte v 0).toNat = n + 5 := ⟨(wordByte v 0).toNat - 5, by omega⟩
  exact parseEdit_put port slot one more

theorem parseEdit_ofSlot (kind : (wordByte v 0).toNat = 1) : parseEdit (w, v) =
    match slotIndex? (wordByte v 1).toNat (wordByte v 2).toNat with
    | none => .error .badSlot
    | some k => .ok (editOf w v target true (.slot k)) := parseEdit_put port slot one kind

theorem parseEdit_badSource (kind : (wordByte v 0).toNat = 1)
    (bad : 3 < (wordByte v 1).toNat ∨ (wordByte v 2).toNat < 2 ∨ 31 < (wordByte v 2).toNat) :
    parseEdit (w, v) = .error .badSlot := by
  rw [parseEdit_ofSlot port slot one kind, slotIndex?_none bad]

theorem parseEdit_slot {k : SlotIndex} (kind : (wordByte v 0).toNat = 1) (a : (wordByte v 1).toNat = (SlotIndex.port k).val)
    (b : (wordByte v 2).toNat = (SlotIndex.slot k).val) : parseEdit (w, v) = .ok (editOf w v target true (.slot k)) := by
  rw [parseEdit_ofSlot port slot one kind, slotIndex?_of a b]

theorem parseEdit_badStream (kind : (wordByte v 0).toNat = 2) (bad : 15 < (wordByte v 1).toNat) :
    parseEdit (w, v) = .error .badField := (parseEdit_put port slot one kind).trans (dif_neg (by omega))

theorem parseEdit_stream {n : StreamNo} (kind : (wordByte v 0).toNat = 2) (a : (wordByte v 1).toNat = n.val) :
    parseEdit (w, v) = .ok (editOf w v target true (.stream n)) := by
  obtain ⟨number, small⟩ := n
  dsimp only at a
  subst a
  exact (parseEdit_put port slot one kind).trans (dif_pos small)

theorem parseEdit_badGroup (kind : (wordByte v 0).toNat = 3) (bad : 7 < (wordByte v 1).toNat) :
    parseEdit (w, v) = .error .badField := (parseEdit_put port slot one kind).trans (dif_neg (by omega))

theorem parseEdit_scan {g : GroupNo} (kind : (wordByte v 0).toNat = 3) (a : (wordByte v 1).toNat = g.val) :
    parseEdit (w, v) = .ok (editOf w v target true (.scan g)) := by
  obtain ⟨number, small⟩ := g
  dsimp only at a
  subst a
  exact (parseEdit_put port slot one kind).trans (dif_pos small)

end
end
end

/-! ### The checks on an edit (03 R56, checks 6 to 9) -/

theorem State.editStreamOk_iff (s : State) (e : Edit) : s.editStreamOk e = true ↔
    ¬ ∃ n, e.source = .stream n ∧ s.isOpenFeed n = false := by
  unfold State.editStreamOk
  cases e.source <;> simp [Source.stream?]

theorem RouteEntry.protects_iff (t : RouteEntry) (e : Edit) : t.protects e = true ↔
    t.marked = true ∨ (t.cls = .urgent ∧ e.cls = .normal) := by
  simp [RouteEntry.protects]

theorem RouteEntry.occupies_iff (t : RouteEntry) (e : Edit) : t.occupies e = true ↔
    t.tag ≠ 0 ∧ t.tag ≠ e.tag ∧ e.override = false := by
  simp [RouteEntry.occupies, and_assoc]

section
variable {s : State} {before : List SlotIndex} {w : Word × Word} {e : Edit}

theorem State.judgeEdit_bad {o : OutcomeCode} (h : parseEdit w = .error o) : s.judgeEdit before w = .error o := by
  rw [State.judgeEdit, h]

theorem State.judgeEdit_parsed (h : parseEdit w = .ok e) : s.judgeEdit before w =
    if before.contains e.target then .error .duplicate
    else if !s.editStreamOk e then .error .noStream
    else if s.switch.map[e.target].protects e then .error .isProtected
    else if s.switch.map[e.target].occupies e then .error .occupied
    else .ok e := by
  rw [State.judgeEdit, h]

/-- Only which targets came before matters, not their order. -/
theorem State.judgeEdit_congr {other : List SlotIndex} (h : ∀ k, k ∈ before ↔ k ∈ other) :
    s.judgeEdit before w = s.judgeEdit other w := by
  cases parsed : parseEdit w with
  | error o => rw [State.judgeEdit_bad parsed, State.judgeEdit_bad parsed]
  | ok e =>
    have same : before.contains e.target = other.contains e.target := by
      rw [Bool.eq_iff_iff, List.contains_iff_mem, List.contains_iff_mem, h]
    rw [State.judgeEdit_parsed parsed, State.judgeEdit_parsed parsed, same]

theorem State.judgeEdit_new (h : s.judgeEdit before w = .ok e) : e.target ∉ before := by
  cases parsed : parseEdit w with
  | error o => rw [State.judgeEdit_bad parsed] at h; cases h
  | ok f =>
    rw [State.judgeEdit_parsed parsed] at h
    split at h
    · cases h
    · next fresh =>
      repeat
        split at h
        · cases h
      cases h
      rwa [List.contains_iff_mem] at fresh

end

/-- The checks read the map, and which streams are open FEEDs. -/
theorem State.judgeEdit_same {s t : State} (map : t.switch.map = s.switch.map) (feeds : ∀ n, t.isOpenFeed n = s.isOpenFeed n)
    (before : List SlotIndex) (w : Word × Word) : t.judgeEdit before w = s.judgeEdit before w := by
  cases parsed : parseEdit w with
  | error o => rw [State.judgeEdit_bad parsed, State.judgeEdit_bad parsed]
  | ok e =>
    have streams : t.editStreamOk e = s.editStreamOk e := by
      rw [Bool.eq_iff_iff, t.editStreamOk_iff, s.editStreamOk_iff]
      simp only [feeds]
    rw [State.judgeEdit_parsed parsed, State.judgeEdit_parsed parsed, streams, map]

/-! ### The checks on a list (03 R56, R58) -/

theorem State.judgeEdits_same {s t : State} (map : t.switch.map = s.switch.map) (feeds : ∀ n, t.isOpenFeed n = s.isOpenFeed n)
    (k : Nat) (before : List SlotIndex) (ws : List (Word × Word)) : t.judgeEdits k before ws = s.judgeEdits k before ws := by
  induction ws generalizing k before with
  | nil => rfl
  | cons w ws ih =>
    rw [State.judgeEdits, State.judgeEdits, State.judgeEdit_same map feeds]
    simp only [ih]

section
variable {s : State}

section
variable {k : Nat} {before : List SlotIndex} {w : Word × Word} {ws : List (Word × Word)}

theorem State.judgeEdits_bad {o : OutcomeCode} (h : s.judgeEdit before w = .error o) :
    s.judgeEdits k before (w :: ws) = .error (o, k) := by
  rw [State.judgeEdits, h]

variable {e : Edit} (h : s.judgeEdit before w = .ok e)
include h

theorem State.judgeEdits_cons {es : List Edit} (rest : s.judgeEdits (k + 1) (e.target :: before) ws = .ok es) :
    s.judgeEdits k before (w :: ws) = .ok (e :: es) := by
  rw [State.judgeEdits, h]
  dsimp only
  rw [rest]

theorem State.judgeEdits_later {f : OutcomeCode × Nat} (rest : s.judgeEdits (k + 1) (e.target :: before) ws = .error f) :
    s.judgeEdits k before (w :: ws) = .error f := by
  rw [State.judgeEdits, h]
  dsimp only
  rw [rest]

end

/-- Good edits at the head of a list, and what then comes. -/
theorem State.judgeEdits_each {ws : List (Word × Word)} {es : List Edit} (k : Nat) (before : List SlotIndex)
    (length : es.length ≤ ws.length)
    (good : ∀ j (hj : j < es.length) w, ws[j]? = some w → s.judgeEdit (before ++ (es.take j).map fun e => e.target) w = .ok es[j]) :
    (es.length = ws.length → s.judgeEdits k before ws = .ok es) ∧
    ∀ w o, ws[es.length]? = some w → s.judgeEdit (before ++ es.map fun e => e.target) w = .error o →
      s.judgeEdits k before ws = .error (o, k + es.length) := by
  induction es generalizing ws k before with
  | nil =>
    cases ws with
    | nil => exact ⟨fun _ => rfl, fun w o h => nomatch h⟩
    | cons w ws =>
      refine ⟨fun h => absurd h (Nat.succ_ne_zero _).symm, fun x o h bad => ?_⟩
      cases h
      rw [List.map_nil, List.append_nil] at bad
      exact State.judgeEdits_bad bad
  | cons e es ih =>
    cases ws with
    | nil => exact absurd length (Nat.not_succ_le_zero _)
    | cons w ws =>
      have first : s.judgeEdit before w = .ok e := by
        have first := good 0 (Nat.zero_lt_succ _) w rfl
        rwa [List.take_zero, List.map_nil, List.append_nil] at first
      have moved (l : List SlotIndex) (x : SlotIndex) : x ∈ (e.target :: before) ++ l ↔ x ∈ before ++ (e.target :: l) := by
        simp only [List.mem_append, List.mem_cons]
        tauto
      obtain ⟨all, fails⟩ := ih (ws := ws) (k + 1) (e.target :: before) (Nat.le_of_succ_le_succ length) fun j hj w at_j => by
        rw [State.judgeEdit_congr (moved _)]
        exact good (j + 1) (Nat.succ_lt_succ hj) w at_j
      refine ⟨fun same => State.judgeEdits_cons first (all (Nat.succ.inj same)), fun x o at_x bad => ?_⟩
      rw [List.map_cons, ← State.judgeEdit_congr (moved _)] at bad
      rw [State.judgeEdits_later first (fails x o at_x bad), List.length_cons, Nat.add_assoc, Nat.add_comm 1]

/-- The targets of a list that passes are distinct. -/
theorem State.judgeEdits_nodup {ws : List (Word × Word)} {es : List Edit} {k : Nat} {before : List SlotIndex}
    (h : s.judgeEdits k before ws = .ok es) : (es.map fun e => e.target).Nodup ∧ ∀ e ∈ es, e.target ∉ before := by
  induction ws generalizing k before es with
  | nil => cases h; exact ⟨List.nodup_nil, fun _ h => nomatch h⟩
  | cons w ws ih =>
    cases judged : s.judgeEdit before w with
    | error o => rw [State.judgeEdits_bad judged] at h; cases h
    | ok e =>
      cases rest : s.judgeEdits (k + 1) (e.target :: before) ws with
      | error f => rw [State.judgeEdits_later judged rest] at h; cases h
      | ok fs =>
        rw [State.judgeEdits_cons judged rest] at h
        cases h
        obtain ⟨nodup, new⟩ := ih rest
        refine ⟨List.nodup_cons.2 ⟨fun again => ?_, nodup⟩,
          List.forall_mem_cons.2 ⟨State.judgeEdit_new judged, fun f hf old => new f hf (List.mem_cons_of_mem _ old)⟩⟩
        obtain ⟨f, hf, same⟩ := List.mem_map.1 again
        exact new f hf (same ▸ List.mem_cons_self)

end

/-! ### Entries written one after the other -/

section
variable {α : Type} (target : α → SlotIndex) (entry : α → RouteEntry)

/-- The map after entries are written into it. -/
def written (as : List α) (map : Vector RouteEntry 120) : Vector RouteEntry 120 :=
  as.foldl (fun m a => m.set (target a) (entry a)) map

theorem written_other {as : List α} {k : SlotIndex} (h : ∀ a ∈ as, target a ≠ k) (map : Vector RouteEntry 120) :
    (written target entry as map)[k] = map[k] := by
  induction as generalizing map with
  | nil => rfl
  | cons a as ih =>
    obtain ⟨other, others⟩ := List.forall_mem_cons.1 h
    exact (ih others _).trans ((Vector.getElem_set_slot _ _ _ _).trans (if_neg other))

theorem written_mem {as : List α} (nodup : (as.map target).Nodup) {a : α} (h : a ∈ as) (map : Vector RouteEntry 120) :
    (written target entry as map)[target a] = entry a := by
  induction as generalizing map with
  | nil => cases h
  | cons b as ih =>
    obtain ⟨new, nodup⟩ := List.nodup_cons.1 nodup
    rcases List.mem_cons.1 h with rfl | later
    · refine (written_other target entry (fun b hb same => new (List.mem_map.2 ⟨b, hb, same⟩)) _).trans ?_
      exact (Vector.getElem_set_slot _ _ _ _).trans (if_pos rfl)
    · exact ih nodup later _

theorem State.replaceEntries_only (as : List α) (s : State) : as.foldl (fun s a => s.replaceEntry (target a) (entry a)) s = { s with
    switch := { s.switch with map := written target entry as s.switch.map }
    streams := (as.foldl (fun s a => s.replaceEntry (target a) (entry a)) s).streams } := by
  induction as generalizing s with
  | nil => rfl
  | cons a as ih =>
    rw [List.foldl_cons, ih, State.replaceEntry_switch, State.replaceEntry_only]
    rfl

end

/-! ### A change carried out at its boundary (03 R49, R53) -/

theorem Switch.form_formed {old w : Switch} (slots : w.srcSlots = old.srcSlots) (streams : w.srcStreams = old.srcStreams)
    (scans : w.srcScans = old.srcScans) : Formed old w.form := by
  intro k
  have held {x : Source} (e : w.form.map[k].source = x) : w.form.out[k] = w.sourceOctet x := by
    rw [Switch.form_out]
    exact congrArg w.sourceOctet e
  rw [← slots, ← streams, ← scans]
  exact ⟨held, fun _ => held, fun _ => held, fun _ => held, fun _ => held⟩

theorem exec_switch {s u : State} (hp : s.regs.poreset = false) {first : Bool} (h : (s.setBus {}).formWork first = u) :
    exec (.frameBoundary false [.switch first] []) s = .next (u.setBus {}) := by
  rw [exec_doWork s _ hp, State.doWork, h]

section
variable {s : State} {p : PendingChange} {o : OutcomeCode} {d : Octet} {u : State}

theorem State.heldChange_due (due : s.switch.changeDue = true) (held : s.switch.slot = some p)
    (applied : s.applyChange p.change = (o, d, u)) : s.heldChange = { u with
      switch := { u.switch with slot := none, changeDue := false }
      retire := u.retire ++ [.retire p.held o d [] false] } := by
  rw [State.heldChange, if_pos due, held]
  dsimp only
  rw [applied]
  rfl

/-- A change that leaves no overlay due is all that the forming brings. -/
theorem State.formWork_held (forms : s.switch.formDue = true) (due : s.switch.changeDue = true) (held : s.switch.slot = some p)
    (applied : s.applyChange p.change = (o, d, u)) (calm : u.switch.overlayDue = false) : s.formWork false = { u with
      switch := ({ u.switch with slot := none, changeDue := false } : Switch).form
      retire := u.retire ++ [.retire p.held o d [] false] } := by
  rw [State.formWork, if_pos forms, State.changes, if_neg Bool.false_ne_true, State.heldChange_due due held applied]
  rw [State.overlayIfDue, if_neg (by dsimp only; rw [calm]; exact Bool.false_ne_true)]
  rfl

end

section
variable {s : State} {edits : List (Word × Word)}

theorem State.applyEditList_good {es : List Edit} (h : s.judgeEdits 1 [] edits = .ok es) :
    s.applyEditList edits = (.done, octet edits.length, es.foldl State.applyEdit s) := by
  rw [State.applyEditList, h]

theorem State.applyEditList_bad {o : OutcomeCode} {k : Nat} (h : s.judgeEdits 1 [] edits = .error (o, k)) :
    s.applyEditList edits = (o, octet k, s) := by
  rw [State.applyEditList, h]

end

theorem State.applyEdits_only (es : List Edit) (s : State) : es.foldl State.applyEdit s = { s with
    switch := { s.switch with map := written (fun e => e.target) Edit.entry es s.switch.map }
    streams := (es.foldl State.applyEdit s).streams } := State.replaceEntries_only (fun e : Edit => e.target) Edit.entry es s

section
variable {s : State} {before : List SlotIndex} {w : Word × Word} {e : Edit} (parsed : parseEdit w = .ok e)
include parsed

theorem State.judgeEdit_duplicate (again : e.target ∈ before) : s.judgeEdit before w = .error .duplicate := by
  rw [State.judgeEdit_parsed parsed, if_pos (List.contains_iff_mem.2 again)]

variable (new : e.target ∉ before)
include new

theorem State.judgeEdit_noStream (bad : ∃ n, e.source = .stream n ∧ s.isOpenFeed n = false) :
    s.judgeEdit before w = .error .noStream := by
  rw [State.judgeEdit_parsed parsed, if_neg (mt List.contains_iff_mem.1 new),
    if_pos (by rw [Bool.not_eq_true', ← Bool.not_eq_true, s.editStreamOk_iff]; exact not_not.2 bad)]

variable (good : ¬ ∃ n, e.source = .stream n ∧ s.isOpenFeed n = false)
include good

/-- Checks 8 and 9 are left for a new target with a good source. -/
theorem State.judgeEdit_last : s.judgeEdit before w =
    if s.switch.map[e.target].protects e then .error .isProtected
    else if s.switch.map[e.target].occupies e then .error .occupied
    else .ok e := by
  rw [State.judgeEdit_parsed parsed, if_neg (mt List.contains_iff_mem.1 new), (s.editStreamOk_iff e).2 good]
  rfl

end

/-- Settles O41. -/
theorem editListCarriedOut : Obligations.EditListCarriedOut := by
  refine ⟨fun s before w => ⟨fun o => State.judgeEdit_bad, fun e parsed => ⟨fun again => ?_, fun new bad => ?_, fun new good bad => ?_,
      fun new good free bad => ?_, fun new good free open_ => ?_⟩⟩,
    fun w v => ⟨parseEdit_outside, fun target port slot => ⟨parseEdit_badAction port slot, parseEdit_clear port slot,
      fun one => ⟨parseEdit_badKind port slot one, parseEdit_put port slot one, parseEdit_badSource port slot one,
        fun k => parseEdit_slot port slot one, parseEdit_badStream port slot one, fun n => parseEdit_stream port slot one,
        parseEdit_badGroup port slot one, fun g => parseEdit_scan port slot one, parseEdit_put port slot one⟩⟩⟩,
    fun s edits es length good => ?_, fun s p edits hp forms due calm held change => ⟨fun es good => ?_, fun o k bad => ?_⟩⟩
  · exact State.judgeEdit_duplicate parsed again
  · exact State.judgeEdit_noStream parsed new bad
  · rw [State.judgeEdit_last parsed new good, if_pos ((RouteEntry.protects_iff _ _).2 bad)]
  · rw [State.judgeEdit_last parsed new good, if_neg (mt (RouteEntry.protects_iff _ _).1 free),
      if_pos ((RouteEntry.occupies_iff _ _).2 bad)]
  · rw [State.judgeEdit_last parsed new good, if_neg (mt (RouteEntry.protects_iff _ _).1 free),
      if_neg (mt (RouteEntry.occupies_iff _ _).1 open_)]
  · rw [Nat.add_comm es.length]
    exact State.judgeEdits_each 1 [] length good
  · have judged : (s.setBus {}).judgeEdits 1 [] edits = .ok es := (State.judgeEdits_same (s := s) (t := s.setBus {}) rfl (fun _ => rfl) _ _ _).trans good
    have applied : (s.setBus {}).applyChange p.change = (.done, octet edits.length, es.foldl State.applyEdit (s.setBus {})) := by
      rw [change]
      exact State.applyEditList_good judged
    rw [State.applyEdits_only] at applied
    have nodup := (State.judgeEdits_nodup good).1
    have formed := State.formWork_held (s := s.setBus {}) forms due held applied calm
    refine ⟨_, exec_switch hp formed, rfl, rfl, fun e he => ?_,
      fun k other => ?_, Switch.form_formed rfl rfl rfl, fun n => State.applied_stream es nodup (s.setBus {}) n⟩
    · exact written_mem (fun e : Edit => e.target) Edit.entry nodup he s.switch.map
    · exact written_other (fun e : Edit => e.target) Edit.entry other s.switch.map
  · have judged : (s.setBus {}).judgeEdits 1 [] edits = .error (o, k) := (State.judgeEdits_same (s := s) (t := s.setBus {}) rfl (fun _ => rfl) _ _ _).trans bad
    have applied : (s.setBus {}).applyChange p.change = (o, octet k, s.setBus {}) := by
      rw [change]
      exact State.applyEditList_bad judged
    have formed := State.formWork_held (s := s.setBus {}) forms due held applied calm
    exact ⟨_, exec_switch hp formed, rfl,
      Switch.form_formed rfl rfl rfl⟩

end Sys2Proof.Machine
end

section
/-! PROOFS. DROP_TAG, the fallback overlay and its recovery at their boundary, and a change and an overlay due together. -/

namespace Sys2Proof.Machine

/-! ### The overlay and its recovery on the map (03 R66, R70) -/

/-- The entry that the overlay lays. -/
def FallbackEntry.laid (e : FallbackEntry) : RouteEntry := { source := e.source, tag := 0, cls := .urgent, marked := true }

/-- What a table displaces, laid entry by entry over a map. -/
def displacing : List FallbackEntry → Vector RouteEntry 120 → List Displaced
  | [], _ => []
  | e :: es, map => { target := e.target, entry := map[e.target] } :: displacing es (map.set e.target e.laid)

theorem Switch.overlayEntries_eq (table : List FallbackEntry) (w : Switch) : table.foldl Switch.overlayEntry w = { w with
    map := written (fun e => e.target) FallbackEntry.laid table w.map
    displaced := w.displaced ++ displacing table w.map } := by
  induction table generalizing w with
  | nil => rw [displacing, List.append_nil]; rfl
  | cons e es ih =>
    have head : (w.overlayEntry e).displaced = w.displaced ++ [{ target := e.target, entry := w.map[e.target] }] := rfl
    rw [List.foldl_cons, ih, head, displacing, List.append_assoc]
    rfl

/-- A table with distinct targets displaces the entries that stood before it. -/
theorem displacing_nodup {table : List FallbackEntry} (nodup : (table.map fun e => e.target).Nodup) (map : Vector RouteEntry 120) :
    displacing table map = table.map fun e => { target := e.target, entry := map[e.target] } := by
  induction table generalizing map with
  | nil => rfl
  | cons e es ih =>
    obtain ⟨new, nodup⟩ := List.nodup_cons.1 nodup
    rw [displacing, ih nodup, List.map_cons]
    congr 1
    refine List.map_congr_left fun f hf => ?_
    rw [Vector.getElem_set_slot, if_neg fun same => new (List.mem_map.2 ⟨f, hf, same.symm⟩)]

theorem State.overlay_eq (s : State) : s.overlay = s.onSwitch fun w => { w with
    map := written (fun e => e.target) FallbackEntry.laid s.supervision.table w.map
    displaced := w.displaced ++ displacing s.supervision.table w.map
    overlayOrder := false
    overlayDue := false } := by
  unfold State.overlay State.onSwitch
  dsimp only
  rw [Switch.overlayEntries_eq]

/-- A displaced entry as the recovery writes it back. -/
def Displaced.restored (d : Displaced) : RouteEntry := { d.entry with marked := false }

theorem Switch.restore_eq (w : Switch) : w.restore = { w with
    map := written (fun d => d.target) Displaced.restored w.displaced w.map
    displaced := []
    overlayOrder := false
    overlayDue := false } := by
  have entries (ds : List Displaced) (w : Switch) : ds.foldl Switch.restoreEntry w = { w with
      map := written (fun d => d.target) Displaced.restored ds w.map } := by
    induction ds generalizing w with
    | nil => rfl
    | cons d ds ih =>
      rw [List.foldl_cons, ih]
      rfl
  rw [Switch.restore, entries]

theorem State.onSwitch_restore (s : State) : s.onSwitch Switch.restore = { s with switch := { s.switch with
    map := written (fun d => d.target) Displaced.restored s.switch.displaced s.switch.map
    displaced := []
    overlayOrder := false
    overlayDue := false } } := by
  rw [← Switch.restore_eq]
  rfl

/-! ### DROP_TAG on the map (03 R62) -/

theorem State.tagged_nodup (s : State) (tag : Octet) : (s.tagged tag).Nodup := (List.nodup_finRange 120).filter _

theorem State.mem_tagged (s : State) (tag : Octet) (k : SlotIndex) : k ∈ s.tagged tag ↔ s.switch.map[k].dropped tag = true := by
  rw [State.tagged, List.mem_filter]
  exact and_iff_right (List.mem_finRange k)

theorem State.tagged_length (s : State) (tag : Octet) :
    (s.tagged tag).length = (List.finRange 120).countP fun k => s.switch.map[k].dropped tag := List.countP_eq_length_filter.symm

theorem State.tagged_written (s : State) (tag : Octet) (k : SlotIndex) :
    (written id (fun _ => {}) (s.tagged tag) s.switch.map)[k] = if s.switch.map[k].dropped tag then {} else s.switch.map[k] := by
  split
  · next drops =>
    exact written_mem id (fun _ => {}) (by rw [List.map_id]; exact s.tagged_nodup tag) ((s.mem_tagged tag k).2 drops) _
  · next stays =>
    exact written_other id (fun _ => {}) (fun j hj (same : j = k) => stays (same ▸ (s.mem_tagged tag j).1 hj)) _

theorem State.dropTag_only (s : State) (tag : Octet) : (s.tagged tag).foldl (fun s k => s.replaceEntry k {}) s = { s with
    switch := { s.switch with map := written id (fun _ => {}) (s.tagged tag) s.switch.map }
    streams := ((s.tagged tag).foldl (fun s k => s.replaceEntry k {}) s).streams } :=
  State.replaceEntries_only id (fun _ => {}) (s.tagged tag) s

/-! ### A change does not see the octets formed, nor an overlay that is due -/

/-- Other octets formed, and another mark of the overlay, in a switch whose change and forming are due. -/
def State.remark (s : State) (out : Vector Octet 120) (overlay : Bool) : State :=
  s.onSwitch fun w => { w with out := out, overlayDue := overlay, changeDue := true, formDue := true }

section
variable (s : State) (out : Vector Octet 120) (overlay : Bool)

theorem State.sourceLoss_remark (x : Source) : (s.remark out overlay).sourceLoss x = (s.sourceLoss x).remark out overlay := by
  unfold State.sourceLoss
  split <;> rfl

theorem State.sourceGain_remark (x : Source) : (s.remark out overlay).sourceGain x = (s.sourceGain x).remark out overlay := by
  unfold State.sourceGain
  split <;> rfl

theorem State.replaceEntry_remark (k : SlotIndex) (e : RouteEntry) :
    (s.remark out overlay).replaceEntry k e = (s.replaceEntry k e).remark out overlay := by
  unfold State.replaceEntry
  rw [State.sourceLoss_remark, State.sourceGain_remark]
  rfl

theorem State.replaceEntries_remark {α : Type} (target : α → SlotIndex) (entry : α → RouteEntry) (as : List α) :
    as.foldl (fun s a => s.replaceEntry (target a) (entry a)) (s.remark out overlay) =
      (as.foldl (fun s a => s.replaceEntry (target a) (entry a)) s).remark out overlay :=
  List.foldl_hom (fun s : State => s.remark out overlay) fun s a => s.replaceEntry_remark out overlay (target a) (entry a)

theorem State.applyEditList_remark (edits : List (Word × Word)) : (s.remark out overlay).applyEditList edits =
    ((s.applyEditList edits).1, (s.applyEditList edits).2.1, (s.applyEditList edits).2.2.remark out overlay) := by
  have judged : (s.remark out overlay).judgeEdits 1 [] edits = s.judgeEdits 1 [] edits :=
    State.judgeEdits_same (s := s) (t := s.remark out overlay) rfl (fun _ => rfl) _ _ _
  cases h : s.judgeEdits 1 [] edits with
  | error f =>
    rw [State.applyEditList_bad (s := s) (o := f.1) (k := f.2) h, State.applyEditList_bad (o := f.1) (k := f.2) (judged.trans h)]
  | ok es =>
    rw [State.applyEditList_good h, State.applyEditList_good (judged.trans h)]
    exact congrArg (fun u => (_, _, u)) (s.replaceEntries_remark out overlay (fun e : Edit => e.target) Edit.entry es)

theorem State.applyDropTag_remark (tag : Octet) : (s.remark out overlay).applyDropTag tag =
    ((s.applyDropTag tag).1, (s.applyDropTag tag).2.1, (s.applyDropTag tag).2.2.remark out overlay) :=
  congrArg (fun u => (_, _, u)) (s.replaceEntries_remark out overlay id (fun _ => {}) (s.tagged tag))

theorem State.applyRecovery_remark : (s.remark out false).applyRecovery =
    (s.applyRecovery.1, s.applyRecovery.2.1, s.applyRecovery.2.2.remark out false) := by
  unfold State.applyRecovery State.remark State.onSwitch
  dsimp only
  rw [Switch.restore_eq, Switch.restore_eq]
  rfl

theorem State.applyChange_remark (c : Change) (h : c ≠ .recover ∨ overlay = false) : (s.remark out overlay).applyChange c =
    ((s.applyChange c).1, (s.applyChange c).2.1, (s.applyChange c).2.2.remark out overlay) := by
  cases c with
  | editList edits => exact s.applyEditList_remark out overlay edits
  | dropTag tag => exact s.applyDropTag_remark out overlay tag
  | recover =>
    have calm : overlay = false := h.resolve_left fun other => other rfl
    rw [calm]
    exact s.applyRecovery_remark out

end

section
variable {s : State}

theorem State.applyChange_rest {c : Change} (h : c ≠ .recover) :
    (s.applyChange c).2.2.switch.overlayDue = s.switch.overlayDue ∧ (s.applyChange c).2.2.regs = s.regs := by
  cases c with
  | editList edits =>
    show (s.applyEditList edits).2.2.switch.overlayDue = _ ∧ (s.applyEditList edits).2.2.regs = _
    cases judged : s.judgeEdits 1 [] edits with
    | error f => rw [State.applyEditList_bad (o := f.1) (k := f.2) judged]; exact ⟨rfl, rfl⟩
    | ok es => rw [State.applyEditList_good judged, State.applyEdits_only]; exact ⟨rfl, rfl⟩
  | dropTag tag =>
    show ((s.tagged tag).foldl _ s).switch.overlayDue = _ ∧ ((s.tagged tag).foldl _ s).regs = _
    rw [State.dropTag_only]
    exact ⟨rfl, rfl⟩
  | recover => exact absurd rfl h

theorem State.applyRecovery_calm : s.applyRecovery.2.2.switch.overlayDue = false := rfl

theorem State.heldChange_some {p : PendingChange} (due : s.switch.changeDue = true) (held : s.switch.slot = some p) :
    s.heldChange = { (s.applyChange p.change).2.2 with
      switch := { (s.applyChange p.change).2.2.switch with slot := none, changeDue := false }
      retire := (s.applyChange p.change).2.2.retire ++
        [.retire p.held (s.applyChange p.change).1 (s.applyChange p.change).2.1 [] false] } :=
  State.heldChange_due due held rfl

theorem State.heldChange_none (due : s.switch.changeDue = true) (empty : s.switch.slot = none) :
    s.heldChange = s.onSwitch fun w => { w with changeDue := false } := by
  rw [State.heldChange, if_pos due, empty]

theorem State.heldChange_notDue (h : s.switch.changeDue = false) : s.heldChange = s := by
  rw [State.heldChange, h]
  rfl

theorem State.overlayIfDue_due (h : s.switch.overlayDue = true) : s.overlayIfDue = s.overlay := if_pos h

theorem State.overlayIfDue_notDue (h : s.switch.overlayDue = false) : s.overlayIfDue = s := by
  rw [State.overlayIfDue, h]
  rfl

/-- The change carried out, whatever octets are formed and whether an overlay is marked. -/
theorem State.heldChange_remark (due : s.switch.changeDue = true) (out : Vector Octet 120) (overlay : Bool)
    (h : (∀ p, s.switch.slot = some p → p.change ≠ .recover) ∨ overlay = false) :
    (s.remark out overlay).heldChange =
      s.heldChange.onSwitch fun w => { w with out := out, overlayDue := overlay, formDue := true } := by
  have marked : (s.remark out overlay).switch.changeDue = true := rfl
  cases held : s.switch.slot with
  | none => rw [State.heldChange_none due held, State.heldChange_none marked held]; rfl
  | some p =>
    rw [State.heldChange_some due held, State.heldChange_some marked held,
      s.applyChange_remark out overlay p.change (h.imp_left fun others => others p held)]
    rfl

/-- No change makes an overlay due. -/
theorem State.heldChange_calm (due : s.switch.changeDue = true) (calm : s.switch.overlayDue = false) :
    s.heldChange.switch.overlayDue = false := by
  cases held : s.switch.slot with
  | none => rw [State.heldChange_none due held]; exact calm
  | some p =>
    rw [State.heldChange_some due held]
    by_cases recovers : p.change = .recover
    · rw [recovers]
      rfl
    · exact (State.applyChange_rest recovers).1.trans calm

theorem State.heldChange_ordered {p : PendingChange} (due : s.switch.changeDue = true) (held : s.switch.slot = some p)
    (other : p.change ≠ .recover) : s.heldChange.switch.overlayDue = s.switch.overlayDue ∧ s.heldChange.regs = s.regs ∧
      s.heldChange.switch.changeDue = false := by
  obtain ⟨still, regs⟩ := State.applyChange_rest (s := s) other
  rw [State.heldChange_some due held]
  exact ⟨still, regs, rfl⟩

end

/-! ### Both due together (03 R71 to R73) -/

/-- Forming replaces the octets and the marks of its own. -/
theorem Switch.form_remark {w : Switch} (calm : w.overlayDue = false) (out : Vector Octet 120) :
    ({ w with out := out, overlayDue := false, formDue := true } : Switch).form = w.form := by
  obtain ⟨⟩ := w
  cases calm
  rfl

theorem Switch.remark_same {w : Switch} (due : w.changeDue = true) (forms : w.formDue = true) (overlay : Bool) :
    ({ w with out := w.out, overlayDue := overlay, changeDue := true, formDue := true } : Switch) = { w with overlayDue := overlay } := by
  obtain ⟨⟩ := w
  cases due
  cases forms
  rfl

section
variable {s : State} (forms : s.switch.formDue = true)
include forms

theorem State.formWork_overlayFirst : s.formWork true = s.overlayIfDue.heldChange.onSwitch Switch.form :=
  (if_pos forms).trans (congrArg (fun u => State.onSwitch u Switch.form) (if_pos rfl))

theorem State.formWork_changeFirst : s.formWork false = s.heldChange.overlayIfDue.onSwitch Switch.form :=
  (if_pos forms).trans (congrArg (fun u => State.onSwitch u Switch.form) (if_neg Bool.false_ne_true))

end

section
variable {s : State} (hp : s.regs.poreset = false) (forms : s.switch.formDue = true) (due : s.switch.changeDue = true)
  (ordered : s.switch.overlayDue = true)
include hp forms due ordered

/-- The overlay first: it comes alone, and then the change comes alone. -/
theorem exec_overlayThenChange :
    ∃ t, exec (.frameBoundary false [.switch true] []) { s with switch := { s.switch with changeDue := false } } = .next t ∧
      exec (.frameBoundary false [.switch true] []) s = exec (.frameBoundary false [.switch false] [])
        { t with switch := { t.switch with changeDue := true, formDue := true } } := by
  set a := s.setBus {}
  have first : (({ s with switch := { s.switch with changeDue := false } } : State).setBus {}).formWork true =
      (a.onSwitch fun w => { w with changeDue := false }).overlay.onSwitch Switch.form := by
    refine (State.formWork_overlayFirst (by exact forms)).trans ?_
    rw [State.overlayIfDue_due (by exact ordered), State.heldChange_notDue (by rw [State.overlay_eq]; rfl)]
    rfl
  have both : a.formWork true = a.overlay.heldChange.onSwitch Switch.form := by
    rw [State.formWork_overlayFirst (by exact forms), State.overlayIfDue_due (by exact ordered)]
  refine ⟨_, exec_switch (by exact hp) first, (exec_switch hp both).trans (exec_switch (by exact hp) ?_).symm⟩
  have due' : a.overlay.switch.changeDue = true := by rw [State.overlay_eq]; exact due
  have calm : a.overlay.switch.overlayDue = false := by rw [State.overlay_eq]; rfl
  have laid (out : Vector Octet 120) : (a.overlay.remark out false).formWork false = a.overlay.heldChange.onSwitch Switch.form := by
    rw [State.formWork_changeFirst rfl, State.heldChange_remark due' out false (.inr rfl), State.overlayIfDue_notDue rfl]
    have formed := Switch.form_remark (State.heldChange_calm due' calm) out
    unfold State.onSwitch
    dsimp only
    rw [formed]
  refine Eq.trans ?_ (laid ((a.onSwitch fun w => { w with changeDue := false }).overlay.switch.form.out))
  congr 1
  rw [State.overlay_eq, State.overlay_eq]
  rfl

omit hp forms due ordered in
/-- The overlay alone, after a change that has left it marked. -/
theorem exec_overlayAfter {u : State} (out : Vector Octet 120) (hp : u.regs.poreset = false) (done : u.switch.changeDue = false) :
    let t := ((u.onSwitch fun w => { w with out := out, overlayDue := false, formDue := true }).onSwitch Switch.form).setBus {}
    exec (.frameBoundary false [.switch true] []) { t with switch := { t.switch with overlayDue := true, formDue := true } } =
      .next ((u.overlay.onSwitch Switch.form).setBus {}) := by
  intro t
  have laid : (({ t with switch := { t.switch with overlayDue := true, formDue := true } } : State).setBus {}).formWork true =
      (({ t with switch := { t.switch with overlayDue := true, formDue := true } } : State).setBus {}).overlay.onSwitch Switch.form := by
    rw [State.formWork_overlayFirst rfl, State.overlayIfDue_due rfl, State.heldChange_notDue (by rw [State.overlay_eq]; exact done)]
  rw [exec_switch (by exact hp) laid, State.overlay_eq, State.overlay_eq]
  rfl

/-- The change first, if it is no RECOVER: it comes alone, and then the overlay comes alone. -/
theorem exec_changeThenOverlay {p : PendingChange} (held : s.switch.slot = some p) (other : p.change ≠ .recover) :
    ∃ t, exec (.frameBoundary false [.switch false] []) { s with switch := { s.switch with overlayDue := false } } = .next t ∧
      exec (.frameBoundary false [.switch false] []) s = exec (.frameBoundary false [.switch true] [])
        { t with switch := { t.switch with overlayDue := true, formDue := true } } := by
  set a := s.setBus {}
  have marked : a.remark a.switch.out false = a.onSwitch fun w => { w with overlayDue := false } :=
    congrArg (fun w => { a with switch := w }) (Switch.remark_same (w := a.switch) due forms false)
  have first : (({ s with switch := { s.switch with overlayDue := false } } : State).setBus {}).formWork false =
      (a.heldChange.onSwitch fun w => { w with out := a.switch.out, overlayDue := false, formDue := true }).onSwitch Switch.form := by
    refine (congrArg (fun u => State.formWork u false) marked.symm).trans ?_
    rw [State.formWork_changeFirst rfl, State.heldChange_remark (by exact due) _ _ (.inr rfl), State.overlayIfDue_notDue rfl]
  obtain ⟨still, regs, done⟩ := State.heldChange_ordered (s := a) (by exact due) (by exact held) other
  have both : a.formWork false = a.heldChange.overlay.onSwitch Switch.form := by
    rw [State.formWork_changeFirst (by exact forms), State.overlayIfDue_due (still.trans ordered)]
  refine ⟨_, exec_switch (by exact hp) first, (exec_switch hp both).trans ?_⟩
  exact (exec_overlayAfter a.switch.out (by rw [regs]; exact hp) done).symm

end

/-! ### The statement -/

/-- Settles O42. -/
theorem dropTagOverlayRecovery : Obligations.DropTagOverlayRecovery := by
  refine ⟨fun s p tag hp forms due calm held change => ?_, fun s hp forms noChange due nodup => ?_,
    fun s hp forms due ordered => ⟨exec_overlayThenChange hp forms due ordered,
      fun p held other => exec_changeThenOverlay hp forms due ordered held other⟩,
    fun s p hp forms due held change nodup => ?_⟩
  · have applied : (s.setBus {}).applyChange p.change = (.done, octet (s.tagged tag).length,
        (s.tagged tag).foldl (fun s k => s.replaceEntry k {}) (s.setBus {})) := by
      rw [change]
      rfl
    have only := (s.setBus {}).dropTag_only tag
    rw [show (s.setBus {}).tagged tag = s.tagged tag from rfl] at only
    rw [only, s.tagged_length] at applied
    refine ⟨_, exec_switch hp (State.formWork_held (s := s.setBus {}) forms due held applied calm), rfl, rfl,
      fun k => s.tagged_written tag k, Switch.form_formed rfl rfl rfl, fun n => ?_⟩
    have refs := State.emptied_stream (s.tagged tag) (s.tagged_nodup tag) (s.setBus {}) n
    rw [State.tagged, List.countP_filter] at refs
    simp only [Bool.and_comm] at refs ⊢
    exact refs
  · have formed : (s.setBus {}).formWork false = (s.setBus {}).overlay.onSwitch Switch.form := by
      rw [State.formWork_changeFirst (by exact forms), State.heldChange_notDue (by exact noChange),
        State.overlayIfDue_due (by exact due)]
    rw [State.overlay_eq] at formed
    refine ⟨_, exec_switch hp formed, rfl, rfl, Switch.form_formed rfl rfl rfl, ?_, fun e he => ?_, fun k other => ?_⟩
    · exact congrArg (s.switch.displaced ++ ·) (displacing_nodup nodup s.switch.map)
    · exact written_mem (fun e : FallbackEntry => e.target) FallbackEntry.laid nodup he s.switch.map
    · exact written_other (fun e : FallbackEntry => e.target) FallbackEntry.laid other s.switch.map
  · have applied : (s.setBus {}).applyChange p.change = (.done, octet s.switch.displaced.length,
        ((s.setBus {}).onSwitch Switch.restore).recoverSupervision) := by
      rw [change]
      rfl
    rw [State.onSwitch_restore] at applied
    refine ⟨_, exec_switch hp (State.formWork_held (s := s.setBus {}) forms due held applied rfl), rfl, rfl,
      Switch.form_formed rfl rfl rfl, fun d hd => ?_, fun k other => ?_⟩
    · exact written_mem (fun d : Displaced => d.target) Displaced.restored nodup hd s.switch.map
    · exact written_other (fun d : Displaced => d.target) Displaced.restored other s.switch.map

end Sys2Proof.Machine
end

section
/-! PROOFS. The receiver of a line unit: marks and misses counted, in loop mode the port's own frame, and the reports ALIGNED and
MISALIGNED. -/

namespace Sys2Proof.Machine

/-! ### Changes of one line unit -/

section
variable (s : State) (p : Port)

theorem State.onLine_eq (f : LineUnit → LineUnit) : s.onLine p f = { s with lines := s.lines.set p (f s.lines[p]) } := rfl

theorem State.onLine_same {f : LineUnit → LineUnit} (h : f s.lines[p] = s.lines[p]) : s.onLine p f = s := by
  rw [State.onLine_eq, h, show s.lines.set p s.lines[p] = s.lines from Vector.set_getElem_self _]

theorem State.onLine_onLine (f g : LineUnit → LineUnit) :
    (s.onLine p f).onLine p g = { s with lines := s.lines.set p (g (f s.lines[p])) } := by
  rw [State.onLine_eq, State.onLine_eq]
  dsimp only
  rw [Vector.get_set_same, Vector.set_set]

end

/-! ### What the receiver has to report (02 R31, R32) -/

/-- Neither ALIGNED nor MISALIGNED is due. -/
def PortReceiver.Quiet (r : PortReceiver) : Prop :=
  (r.status = .hunting → r.markCount < 4) ∧ (r.status = .aligned → r.missCount < 3)

theorem PortReceiver.quiet_hunting {r : PortReceiver} (h : r.status = .hunting) (few : r.markCount < 4) : r.Quiet :=
  ⟨fun _ => few, fun other => by rw [h] at other; cases other⟩

theorem PortReceiver.quiet_aligned {r : PortReceiver} (h : r.status = .aligned) (few : r.missCount < 3) : r.Quiet :=
  ⟨fun other => (by rw [h] at other; cases other), fun _ => few⟩

theorem PortReceiver.quiet_stopped {r : PortReceiver} (h : r.status = .stopped) : r.Quiet :=
  ⟨fun other => (by rw [h] at other; cases other), fun other => (by rw [h] at other; cases other)⟩

theorem State.settleReceiver_quiet {s : State} {p : Port} (h : s.lines[p].rx.Quiet) : s.settleReceiver p = s := by
  have calm : s.alignedEvent p = s := if_neg fun due => Nat.not_le.2 (h.1 due.1) due.2
  rw [State.settleReceiver, calm]
  exact if_neg fun due => Nat.not_le.2 (h.2 due.1) due.2

/-! ### Marks and frames outside loop mode (02 R31, R32) -/

section
variable {r : PortReceiver}

theorem PortReceiver.mark_first (hunting : r.status = .hunting) (empty : r.candidate = none) (pos : Fin 256) :
    r.mark pos = { r with candidate := some pos, markCount := 1 } := if_pos ⟨hunting, empty⟩

theorem PortReceiver.mark_other (h : ¬ (r.status = .hunting ∧ r.candidate = none)) (pos : Fin 256) : r.mark pos = r := if_neg h

theorem PortReceiver.frame_stopped (h : r.status = .stopped) (mark : Bool) (octets : Frame) : r.frame mark octets = r := by
  rw [PortReceiver.frame, h]

theorem PortReceiver.frame_aligned (h : r.status = .aligned) (mark : Bool) (octets : Frame) : r.frame mark octets =
    { r with missCount := if mark then 0 else r.missCount + 1, latest := some octets } := by
  rw [PortReceiver.frame, h]

section
variable (h : r.status = .hunting) {c : Fin 256} (candidate : r.candidate = some c)
include h candidate

theorem PortReceiver.frame_marked (octets : Frame) : r.frame true octets =
    { r with markCount := r.markCount + 1, latest := if 3 ≤ r.markCount then some octets else none } := by
  have fourth : (4 ≤ r.markCount + 1) = (3 ≤ r.markCount) := propext (by omega)
  rw [PortReceiver.frame, h]
  dsimp only
  rw [candidate]
  simp only [fourth, if_true]

theorem PortReceiver.frame_unmarked (octets : Frame) : r.frame false octets = { r with candidate := none, markCount := 0 } := by
  rw [PortReceiver.frame, h]
  dsimp only
  rw [candidate]
  rfl

end
end

section
variable {s : State} {p : Port} (open_ : s.lines[p].loop = false) (quiet : s.lines[p].rx.Quiet)
include open_ quiet

theorem State.candidateMark_open (pos : Fin 256) : s.candidateMark p pos = { s with
    lines := s.lines.set p { s.lines[p] with rx := s.lines[p].rx.mark pos } } := by
  rw [State.candidateMark, if_neg (by rw [open_]; exact Bool.false_ne_true), State.settleReceiver_quiet quiet]
  rfl

theorem State.receiveFrame_open (mark : Bool) (octets : Frame) : s.receiveFrame p mark octets = { s with
    lines := s.lines.set p { s.lines[p] with rx := s.lines[p].rx.frame mark octets } } := by
  rw [State.receiveFrame, if_neg (by rw [open_]; exact Bool.false_ne_true), State.settleReceiver_quiet quiet]
  rfl

end

/-! ### The port's own frame in loop mode (02 R43) -/

theorem LineUnit.loopSends_iff (l : LineUnit) (loop : l.loop = true) :
    l.loopSends = true ↔ l.tx.loop = true ∧ l.tx.line ≠ .off ∧ l.loopArrived = false := by
  simp [LineUnit.loopSends, loop, and_assoc]

section
variable {s : State} {p : Port}

theorem State.loopArrive_not (h : ¬ s.lines[p].loopSends = true) (pos : Fin 256) : s.loopArrive p pos = s := if_neg h

theorem State.loopArrive_sends (h : s.lines[p].loopSends = true) (quiet : s.lines[p].rx.Quiet) (pos : Fin 256) :
    s.loopArrive p pos = { s with lines := s.lines.set p { s.lines[p] with
      loopArrived := true
      rx := if s.lines[p].rx.status = .hunting ∧ s.lines[p].rx.candidate = none then s.lines[p].rx.mark pos
        else s.lines[p].rx.frame true idleFrame } } := by
  rw [State.loopArrive, if_pos h, State.settleReceiver_quiet quiet]
  rfl

variable (loop : s.lines[p].loop = true)
include loop

theorem State.receiveFrame_loop (mark : Bool) (octets : Frame) : s.receiveFrame p mark octets =
    if s.lines[p].rx.status = .hunting ∧ s.lines[p].rx.candidate = none then s else s.loopArrive p 0 := if_pos loop

theorem State.candidateMark_loop (pos : Fin 256) : s.candidateMark p pos =
    if s.lines[p].rx.status = .hunting ∧ s.lines[p].rx.candidate = none then s.loopArrive p pos else s := if_pos loop

end

/-! ### ALIGNED and MISALIGNED (02 R31, R32, R37, R38, R42) -/

section
variable {s : State} {p : Port}

theorem LineUnit.enter_awake (l : LineUnit) :
    l.enter .awake = { l with line := .awake, wakeCount := 0, quietCount := 0, statusDue := true } := by
  simp [LineUnit.enter, LineState.clearsPeerSeen]

/-- The line unit whose receiver has found its place. -/
def LineUnit.found (l : LineUnit) : LineUnit := { l with rx := { l.rx with status := .aligned, missCount := 0 } }

/-- The line unit whose receiver has lost its place. -/
def LineUnit.strayed (l : LineUnit) : LineUnit :=
  { l with rx := { l.rx with status := .hunting, markCount := 0, candidate := none, latest := none } }

section
variable (hunting : s.lines[p].rx.status = .hunting) (marks : 4 ≤ s.lines[p].rx.markCount)
include hunting marks

theorem State.alignedEvent_due : s.alignedEvent p =
    if s.lines[p].line = .quiet then (s.onLine p LineUnit.found).moveLine p fun l => l.enter .awake else s.onLine p LineUnit.found :=
  if_pos ⟨hunting, marks⟩

theorem State.alignedEvent_wakes (quiet : s.lines[p].line = .quiet) : s.alignedEvent p = { withCause s .port with
    lines := s.lines.set p { s.lines[p].found with line := .awake, wakeCount := 0, quietCount := 0, statusDue := true } } := by
  rw [State.alignedEvent_due hunting marks, if_pos quiet, State.moveLine, State.onLine_onLine, LineUnit.enter_awake]
  rfl

end

section
variable (aligned : s.lines[p].rx.status = .aligned) (misses : 3 ≤ s.lines[p].rx.missCount)
include aligned misses

theorem State.misalignedEvent_due : s.misalignedEvent p =
    if s.lines[p].line.counts = true then (s.onLine p LineUnit.strayed).toLost p else s.onLine p LineUnit.strayed :=
  if_pos ⟨aligned, misses⟩

end

/-- The flush goes by the line state before the move alone. -/
theorem State.flushed_onLine {f : LineUnit → LineUnit} (line : (f s.lines[p]).line = s.lines[p].line) (new : LineUnit) :
    flushed (s.onLine p f) p new = flushed s p new := by
  unfold flushed
  rw [State.onLine_eq]
  dsimp only
  rw [Vector.get_set_same, Vector.set_set, line]

end

section
variable (s : State) (p : Port) (hp : s.regs.poreset = false)
include hp

theorem exec_candidateMark (pos : Fin 256) : exec (.candidateMark p pos) s = .next (s.candidateMark p pos) :=
  whileReleased_next s (fun s => s.candidateMark p pos) hp

theorem exec_receiveFrame (mark : Bool) (octets : Frame) :
    exec (.receiveFrame p mark octets) s = .next (s.receiveFrame p mark octets) :=
  whileReleased_next s (fun s => s.receiveFrame p mark octets) hp

theorem exec_aligned : exec (.aligned p) s = .next (s.alignedEvent p) := whileReleased_next s (fun s => s.alignedEvent p) hp

theorem exec_misaligned : exec (.misaligned p) s = .next (s.misalignedEvent p) :=
  whileReleased_next s (fun s => s.misalignedEvent p) hp

end

/-- Settles O43. -/
theorem receiverCountsMarks : Obligations.ReceiverCountsMarks := by
  intro s p hp
  refine ⟨fun pos open_ hunting empty few => ?_, fun pos open_ quiet => ?_, fun mark octets open_ stopped => ?_,
    fun octets c open_ hunting candidate few => ?_, fun octets c open_ hunting candidate few => ?_,
    fun mark octets open_ aligned few => ?_, fun mark mark' octets octets' loop => ?_,
    fun loop => ⟨fun mark octets pos away => ⟨?_, ?_⟩, fun mark octets hunting empty => ?_, fun pos h => ?_,
      fun pos arrives hunting empty few => ?_, fun mark octets c arrives hunting candidate few => ?_,
      fun mark octets arrives aligned few => ?_, fun mark octets arrives stopped => ?_⟩,
    fun hunting marks other => ?_, fun hunting marks quiet => ?_, fun aligned misses counts => ?_, fun aligned misses counts => ?_⟩
  · rw [exec_candidateMark s p hp, State.candidateMark_open open_ (PortReceiver.quiet_hunting hunting few),
      PortReceiver.mark_first hunting empty]
  · have calm : s.lines[p].rx.Quiet := by
      rcases quiet with stopped | ⟨hunting, -, few⟩ | ⟨aligned, few⟩
      · exact PortReceiver.quiet_stopped stopped
      · exact PortReceiver.quiet_hunting hunting few
      · exact PortReceiver.quiet_aligned aligned few
    have kept : ¬ (s.lines[p].rx.status = .hunting ∧ s.lines[p].rx.candidate = none) := by
      rintro ⟨status, empty⟩
      rcases quiet with stopped | ⟨-, used, -⟩ | ⟨aligned, -⟩
      · rw [status] at stopped; cases stopped
      · exact used empty
      · rw [status] at aligned; cases aligned
    rw [exec_candidateMark s p hp, State.candidateMark_open open_ calm, PortReceiver.mark_other kept]
    exact congrArg Host.Outcome.next (s.onLine_same p (f := id) rfl)
  · rw [exec_receiveFrame s p hp, State.receiveFrame_open open_ (PortReceiver.quiet_stopped stopped),
      PortReceiver.frame_stopped stopped]
    exact congrArg Host.Outcome.next (s.onLine_same p (f := id) rfl)
  · rw [exec_receiveFrame s p hp, State.receiveFrame_open open_ (PortReceiver.quiet_hunting hunting few),
      PortReceiver.frame_marked hunting candidate]
  · rw [exec_receiveFrame s p hp, State.receiveFrame_open open_ (PortReceiver.quiet_hunting hunting few),
      PortReceiver.frame_unmarked hunting candidate]
  · rw [exec_receiveFrame s p hp, State.receiveFrame_open open_ (PortReceiver.quiet_aligned aligned few),
      PortReceiver.frame_aligned aligned]
  · rw [exec_receiveFrame s p hp, exec_receiveFrame s p hp, State.receiveFrame_loop loop, State.receiveFrame_loop loop]
  · rw [exec_receiveFrame s p hp, State.receiveFrame_loop loop, State.loopArrive_not (mt (LineUnit.loopSends_iff _ loop).1 away),
      ite_self]
  · rw [exec_candidateMark s p hp, State.candidateMark_loop loop, State.loopArrive_not (mt (LineUnit.loopSends_iff _ loop).1 away),
      ite_self]
  · rw [exec_receiveFrame s p hp, State.receiveFrame_loop loop, if_pos ⟨hunting, empty⟩]
  · rw [exec_candidateMark s p hp, State.candidateMark_loop loop, if_neg (not_and_or.2 h)]
  · rw [exec_candidateMark s p hp, State.candidateMark_loop loop, if_pos ⟨hunting, empty⟩,
      State.loopArrive_sends ((LineUnit.loopSends_iff _ loop).2 arrives) (PortReceiver.quiet_hunting hunting few),
      if_pos ⟨hunting, empty⟩, PortReceiver.mark_first hunting empty]
  · have used : ¬ (s.lines[p].rx.status = .hunting ∧ s.lines[p].rx.candidate = none) := fun h => by
      rw [candidate] at h
      cases h.2
    refine ⟨if 3 ≤ s.lines[p].rx.markCount then some idleFrame else none, ?_⟩
    rw [exec_receiveFrame s p hp, State.receiveFrame_loop loop, if_neg used,
      State.loopArrive_sends ((LineUnit.loopSends_iff _ loop).2 arrives) (PortReceiver.quiet_hunting hunting few), if_neg used,
      PortReceiver.frame_marked hunting candidate]
  · have found : ¬ (s.lines[p].rx.status = .hunting ∧ s.lines[p].rx.candidate = none) := fun h => by
      rw [aligned] at h
      cases h.1
    refine ⟨some idleFrame, ?_⟩
    rw [exec_receiveFrame s p hp, State.receiveFrame_loop loop, if_neg found,
      State.loopArrive_sends ((LineUnit.loopSends_iff _ loop).2 arrives) (PortReceiver.quiet_aligned aligned few), if_neg found,
      PortReceiver.frame_aligned aligned, if_pos rfl]
  · have idle : ¬ (s.lines[p].rx.status = .hunting ∧ s.lines[p].rx.candidate = none) := fun h => by
      rw [stopped] at h
      cases h.1
    rw [exec_receiveFrame s p hp, State.receiveFrame_loop loop, if_neg idle,
      State.loopArrive_sends ((LineUnit.loopSends_iff _ loop).2 arrives) (PortReceiver.quiet_stopped stopped), if_neg idle,
      PortReceiver.frame_stopped stopped]
  · rw [exec_aligned s p hp, State.alignedEvent_due hunting marks, if_neg other]
    rfl
  · rw [exec_aligned s p hp, State.alignedEvent_wakes hunting marks quiet]
    rfl
  · rw [exec_misaligned s p hp, State.misalignedEvent_due aligned misses, if_neg (by rw [counts]; exact Bool.false_ne_true)]
    rfl
  · rw [exec_misaligned s p hp, State.misalignedEvent_due aligned misses, if_pos counts, State.toLost_eq,
      State.flushed_onLine rfl, State.onLine_eq]
    dsimp only
    rw [Vector.get_set_same]
    rfl

end Sys2Proof.Machine
end

section
/-! PROOFS. The moves of a line unit by count and by timer, with the flush that goes with them, and the IDENTIFY that completes. -/

namespace Sys2Proof.Machine

/-! ### The peer code counted (02 R34) -/

theorem peerCode_wake {b : Octet} (h : b.extractLsb' 5 3 = 3#3) : peerCode b = .wake := if_pos h

theorem peerCode_ready {b : Octet} (h : b.extractLsb' 5 3 = 5#3) : peerCode b = .ready :=
  (if_neg (by rw [h]; decide)).trans (if_pos h)

theorem peerCode_quiet {b : Octet} (wake : b.extractLsb' 5 3 ≠ 3#3) (ready : b.extractLsb' 5 3 ≠ 5#3) : peerCode b = .quiet :=
  (if_neg wake).trans (if_neg ready)

section
variable {l : LineUnit} (counts : l.line.counts = true)
include counts

theorem LineUnit.countPeer_wakes (h : peerCode l.rx.presented[1] ≠ .quiet) :
    l.countPeer = { l with wakeCount := min 8 (l.wakeCount + 1), quietCount := 0, peerSeen := true } := by
  rw [LineUnit.countPeer, if_pos counts]
  split
  · rfl
  · rfl
  · next quiet => exact absurd quiet h

theorem LineUnit.countPeer_quiet (h : peerCode l.rx.presented[1] = .quiet) : l.countPeer = { l with
    wakeCount := 0, quietCount := if l.peerSeen then min 4 (l.quietCount + 1) else l.quietCount } := by
  rw [LineUnit.countPeer, if_pos counts, h]

end

/-! ### What a channel reports of a message (07 R132, R142; 08 R157) -/

section
variable {s : State} {q : Queued} {o : OutcomeCode} {n : Nat}

theorem State.report_send {h : Held} (origin : q.origin = .send h) :
    s.report q o n = { s with retire := s.retire ++ [.retire h o (octet n) [] false] } := by
  unfold State.report
  rw [origin]
  rfl

theorem State.report_lineUnit (origin : q.origin = .lineUnit) : s.report q o n = s := by
  unfold State.report
  rw [origin]

section
variable (origin : q.origin = .router)
include origin

theorem State.report_done : s.report q .done n = s := by
  unfold State.report
  rw [origin]
  exact if_pos rfl

theorem State.report_dropped (failed : o ≠ .done) : s.report q o n = s.dropMessage q.msg o := by
  unfold State.report
  rw [origin]
  exact if_neg failed

end
end

/-! ### The moves with their flush (02 R38, R40 to R42) -/

section
variable (s : State) (p : Port)

/-- The frame of this boundary is formed from the line state that the move leaves. -/
theorem State.latchLine_flushed (new : LineUnit) : (flushed s p new).latchLine p =
    flushed s p { new with tx := { new.tx with line := new.line } } := by
  unfold flushed
  rw [State.flushIf_latchLine]
  congr 1
  unfold State.latchLine
  rw [State.onLine_eq]
  dsimp only
  rw [Vector.get_set_same, Vector.set_set]

theorem State.toLost_latched : (s.toLost p).latchLine p = withCause (flushed s p { s.lines[p] with
    line := .lost, peer := 0, wakeCount := 0, quietCount := 0, peerSeen := false, identifyTimer := none,
    lostTimer := some 0, statusDue := true, tx := { s.lines[p].tx with line := .lost } }) .port := by
  rw [State.toLost_eq]
  exact congrArg (fun u => withCause u .port) (s.latchLine_flushed p _)

theorem State.toQuiet_latched (loop : Bool) : (s.toQuiet p loop).latchLine p = withCause (flushed s p { s.lines[p] with
    line := .quiet, loop := loop, peer := 0, wakeCount := 0, quietCount := 0, peerSeen := false, identifyTimer := none,
    lostTimer := none, statusDue := true, tx := { s.lines[p].tx with line := .quiet }
    rx := { s.lines[p].rx with status := .hunting, markCount := 0, missCount := 0, candidate := none, latest := none } }) .port := by
  rw [State.toQuiet_eq]
  exact congrArg (fun u => withCause u .port) (s.latchLine_flushed p _)

/-- A move with its flush touches its port's line unit, the channels, the router, the requests and the cause PORT alone. -/
theorem State.moved_only (new : LineUnit) :
    (withCause (flushed s p new) .port).lines[p] = new ∧
    (withCause (flushed s p new) .port).regs.attnPending = s.regs.attnPending ||| Cause.port.bit ∧
    (∀ q : Port, q ≠ p → (withCause (flushed s p new) .port).lines[q] = s.lines[q]) ∧
    (withCause (flushed s p new) .port).mem = s.mem ∧ (withCause (flushed s p new) .port).walker = s.walker ∧
    (withCause (flushed s p new) .port).switch = s.switch ∧ (withCause (flushed s p new) .port).supervision = s.supervision ∧
    (s.lines[p].line.runs = true → (withCause (flushed s p new) .port).channels[p] =
      { senderDue := s.channels[p].senderDue, receiverDue := s.channels[p].receiverDue }) := by
  have channel := s.flushed_channel p new
  have only : flushed s p new = _ := s.flushed_only p new
  have lines : (flushed s p new).lines = s.lines.set p new := by rw [only]
  have regs : (flushed s p new).regs = s.regs := by rw [only]
  have mem : (flushed s p new).mem = s.mem := by rw [only]
  have walker : (flushed s p new).walker = s.walker := by rw [only]
  have switch_ : (flushed s p new).switch = s.switch := by rw [only]
  have supervision : (flushed s p new).supervision = s.supervision := by rw [only]
  refine ⟨?_, ?_, fun q other => ?_, mem, walker, switch_, supervision, channel⟩
  · rw [show (withCause (flushed s p new) .port).lines = s.lines.set p new from lines, Vector.get_set_same]
  · rw [← regs]
    rfl
  · rw [show (withCause (flushed s p new) .port).lines = s.lines.set p new from lines, Vector.get_set_other _ _ other]

end

/-! ### Entry into READY (02 R39) -/

section
variable {s : State} {p : Port}

/-- The line unit that enters READY. -/
def LineUnit.readied (l : LineUnit) : LineUnit :=
  { l with line := .ready, wakeCount := 0, quietCount := 0, statusDue := true, identifyTimer := some 0 }

theorem State.toReady_eq : s.toReady p = { withCause s .port with
    lines := s.lines.set p s.lines[p].readied
    channels := s.channels.set p { s.channels[p] with queue := [{ msg := s.identifyMessage, origin := .lineUnit }] } } := by
  have entered : ({ s.lines[p].enter .ready with identifyTimer := some 0 } : LineUnit) = s.lines[p].readied := by
    simp [LineUnit.enter, LineState.clearsPeerSeen, LineUnit.readied]
  unfold State.toReady State.moveLine
  rw [State.onLine_eq, entered]
  rfl

end

/-- The channel of a port that enters READY. -/
def State.identifying (s : State) (p : Port) : Channel :=
  { s.channels[p] with queue := [{ msg := s.identifyMessage, origin := .lineUnit }] }

theorem State.wakeCountReady_due {s : State} {p : Port} (awake : s.lines[p].line = .awake) (count : 8 ≤ s.lines[p].wakeCount) :
    s.wakeCountReady p = { withCause s .port with
      lines := s.lines.set p { s.lines[p].readied with tx := { s.lines[p].tx with
        line := .ready, slot0 := (s.identifying p).slot0, marks := (s.identifying p).marks } }
      channels := s.channels.set p (s.identifying p) } := by
  rw [State.wakeCountReady, if_pos ⟨awake, count⟩, State.toReady_eq, State.latchMarks, State.latchLine, State.onLine_onLine]
  rw [State.onLine_eq]
  dsimp only
  rw [Vector.get_set_same, Vector.set_set, Vector.get_set_same]
  rfl

/-! ### The commands -/

section
variable (s : State) (p : Port) (hp : s.regs.poreset = false)
include hp

theorem exec_wakeCountReady : exec (.wakeCountReady p) s = .next (s.wakeCountReady p) :=
  whileReleased_next s (fun s => s.wakeCountReady p) hp

theorem exec_quietCountLoss : exec (.quietCountLoss p) s = .next (s.quietCountLoss p) :=
  whileReleased_next s (fun s => s.quietCountLoss p) hp

theorem exec_identifyTimeout : exec (.identifyTimeout p) s = .next (s.identifyTimeout p) :=
  whileReleased_next s (fun s => s.identifyTimeout p) hp

theorem exec_lostTimerExpiry : exec (.lostTimerExpiry p) s = .next (s.lostTimerExpiry p) :=
  whileReleased_next s (fun s => s.lostTimerExpiry p) hp

theorem exec_identify : exec (.identify p) s = .next (s.identify p) := whileReleased_next s (fun s => s.identify p) hp

end

theorem expired_some {limit n : Nat} {t : Option Nat} (h : t = some n) : expired limit t = true ↔ limit ≤ n := by
  rw [h]
  exact decide_eq_true_iff

/-- What a move with its flush leaves. -/
theorem exec_lineMoved {s : State} {p : Port} {c : Instr} {new : LineUnit}
    (h : exec c s = .next (withCause (flushed s p new) .port)) : ∃ t, exec c s = .next t ∧ t.lines[p] = new ∧
      t = withCause (flushed s p new) .port ∧ t.regs.attnPending = s.regs.attnPending ||| Cause.port.bit ∧
      (∀ q : Port, q ≠ p → t.lines[q] = s.lines[q]) ∧
      t.mem = s.mem ∧ t.walker = s.walker ∧ t.switch = s.switch ∧ t.supervision = s.supervision ∧
      (s.lines[p].line.runs = true → t.channels[p].sender = .idle ∧ t.channels[p].inFlight = none ∧ t.channels[p].queue = [] ∧
        t.channels[p].receiver = .idle ∧ t.channels[p].holding = none) := by
  obtain ⟨line, attn, others, mem, walker, switch_, supervision, channel⟩ := s.moved_only p new
  refine ⟨_, h, line, rfl, attn, others, mem, walker, switch_, supervision, fun runs => ?_⟩
  rw [channel runs]
  exact ⟨rfl, rfl, rfl, rfl, rfl⟩

/-- Settles O44. -/
theorem lineMovesByCountAndTimer : Obligations.LineMovesByCountAndTimer := by
  refine ⟨fun b => ⟨peerCode_wake, peerCode_ready, peerCode_quiet⟩,
    fun l counts => ⟨LineUnit.countPeer_wakes counts, fun quiet seen => ?_, fun quiet unseen => ?_⟩, fun s p => s.flush_eq p,
    fun s q n => ⟨fun h => State.report_send, fun origin kind => ?_, fun origin kind => ?_, State.report_lineUnit⟩, fun s p hp => ?_⟩
  · rw [LineUnit.countPeer_quiet counts quiet, if_pos seen]
  · rw [LineUnit.countPeer_quiet counts quiet, if_neg (by rw [unseen]; exact Bool.false_ne_true)]
  · exact (State.report_dropped origin (by decide)).trans (State.dropMessage_data kind _)
  · exact (State.report_dropped origin (by decide)).trans (State.dropMessage_other kind _)
  refine ⟨fun awake count => ?_, fun h => ?_, fun counts quiet => exec_lineMoved ?_, fun h => ?_, fun n ready timer late => exec_lineMoved ?_,
    fun n timer early => ?_, fun n lost timer late => exec_lineMoved ?_, fun n timer early => ?_⟩
  · refine ⟨_, (exec_wakeCountReady s p hp).trans (congrArg _ (State.wakeCountReady_due awake count)), rfl, ?_⟩
    dsimp only
    rw [Vector.get_set_same, Vector.get_set_same]
    exact ⟨rfl, rfl, rfl, rfl, rfl, rfl, rfl, fun q other => ⟨Vector.get_set_other _ _ other, Vector.get_set_other _ _ other⟩⟩
  · exact (exec_wakeCountReady s p hp).trans (congrArg _ (if_neg fun ⟨awake, count⟩ => h.elim (· awake) fun few => by omega))
  · rw [exec_quietCountLoss s p hp, State.quietCountLoss, if_pos ⟨counts, quiet⟩, State.toLost_latched]
  · refine (exec_quietCountLoss s p hp).trans (congrArg _ (if_neg fun ⟨counts, quiet⟩ => ?_))
    exact h.elim (fun off => by rw [off] at counts; cases counts) fun few => Nat.not_le.2 few quiet
  · rw [exec_identifyTimeout s p hp, State.identifyTimeout, if_pos ⟨ready, (expired_some timer).2 late⟩, State.toLost_latched]
  · exact (exec_identifyTimeout s p hp).trans
      (congrArg _ (if_neg fun ⟨_, late⟩ => Nat.not_le.2 early ((expired_some timer).1 late)))
  · rw [exec_lostTimerExpiry s p hp, State.lostTimerExpiry, if_pos ⟨lost, (expired_some timer).2 late⟩, State.toQuiet_latched]
  · exact (exec_lostTimerExpiry s p hp).trans
      (congrArg _ (if_neg fun ⟨_, late⟩ => Nat.not_le.2 early ((expired_some timer).1 late)))

/-! ### IDENTIFY (02 R40, R41) -/

theorem isNode_iff (b : Octet) : isNode b = true ↔ 1 ≤ b.toNat ∧ b.toNat ≤ 254 := by
  have zero := octet_eq_iff (b := b) 0 (by omega)
  have last := octet_eq_iff (b := b) 255 (by omega)
  rw [isNode, Bool.and_eq_true, bne_iff_ne, bne_iff_ne]
  refine (and_congr zero.not last.not).trans ?_
  omega

section
variable {s : State} {p : Port} {m : Message} (holding : s.channels[p].holding = some m) (kind : m.kind = .identify)
include holding kind

theorem State.identify_ready (ready : s.lines[p].line = .ready) : s.identify p =
    if isNode m.source then
      ((s.onChannel p fun c => { c with holding := none }).moveLine p fun l =>
        { l.enter .linked with peer := m.source, identifyTimer := none }).latchLine p
    else s.onChannel p fun c => { c with holding := none } := by
  unfold State.identify
  rw [holding]
  dsimp only
  rw [if_neg (not_not.2 kind)]
  rw [show (s.onChannel p fun c => { c with holding := none }).lines[p].line = .ready from ready]

theorem State.identify_linked (linked : s.lines[p].line = .linked) : s.identify p =
    if isNode m.source ∧ m.source ≠ s.lines[p].peer then
      (s.onChannel p fun c => { c with holding := none }).moveLine p fun l => { l with peer := m.source, statusDue := true }
    else s.onChannel p fun c => { c with holding := none } := by
  unfold State.identify
  rw [holding]
  dsimp only
  rw [if_neg (not_not.2 kind)]
  rw [show (s.onChannel p fun c => { c with holding := none }).lines[p].line = .linked from linked]
  rfl

theorem State.identify_noNode (bad : ¬ isNode m.source = true) :
    s.identify p = s.onChannel p fun c => { c with holding := none } := by
  unfold State.identify
  rw [holding]
  dsimp only
  rw [if_neg (not_not.2 kind)]
  split
  · exact if_neg bad
  · exact if_neg fun h => bad h.1
  all_goals rfl

end

theorem State.moveLine_latched (s : State) (p : Port) (f : LineUnit → LineUnit) : (s.moveLine p f).latchLine p =
    withCause { s with lines := s.lines.set p { f s.lines[p] with
      tx := { (f s.lines[p]).tx with line := (f s.lines[p]).line } } } .port := by
  rw [← State.onLine_onLine s p f fun l => { l with tx := { l.tx with line := l.line } }]
  rfl

theorem LineUnit.enter_linked (l : LineUnit) :
    l.enter .linked = { l with line := .linked, wakeCount := 0, quietCount := 0, statusDue := true } := by
  simp [LineUnit.enter, LineState.clearsPeerSeen]

/-- Settles O45. -/
theorem identifyCompletes : Obligations.IdentifyCompletes := by
  intro s p m hp holding kind
  refine ⟨fun ready node => ?_, fun linked node other => ?_, fun linked same => ?_, fun bad => ?_⟩
  · rw [exec_identify s p hp, State.identify_ready holding kind ready, if_pos ((isNode_iff _).2 node), State.moveLine_latched,
      LineUnit.enter_linked]
    rfl
  · rw [exec_identify s p hp, State.identify_linked holding kind linked, if_pos ⟨(isNode_iff _).2 node, other⟩]
    rfl
  · rw [exec_identify s p hp, State.identify_linked holding kind linked, if_neg fun h => h.2 same]
    rfl
  · rw [exec_identify s p hp, State.identify_noNode holding kind (mt (isNode_iff _).1 bad)]
    rfl

end Sys2Proof.Machine
end

section
/-! PROOFS. The words that the part writes into the header: the port status words, the supervision word and the activity image. -/

namespace Sys2Proof.Machine

theorem flagBit_seven (b : Bool) : flagBit b 7 = if b then 0x80 else 0 := by cases b <;> rfl

/-! ### The port status word (02 R45) -/

section
variable {s : State} {p : Port}

theorem State.portStatusWord_eq : s.portStatusWord p =
    wordOf (s.lines[p].line.code ||| (if s.lines[p].loop then 0x80 else 0)) s.lines[p].peer s.channels[p].sender.code
      s.channels[p].receiver.code := by
  rw [State.portStatusWord, flagBit_seven]

/-- The state in which the write of a port's status word is no longer due. -/
def State.statusDone (s : State) (p : Port) : State := s.onLine p fun l => { l with statusDue := false }

theorem State.statusDone_word : (s.statusDone p).portStatusWord p = s.portStatusWord p := by
  unfold State.portStatusWord State.statusDone
  rw [State.onLine_eq]
  dsimp only
  rw [Vector.get_set_same]

theorem State.portStatusWrite_not (h : s.lines[p].statusDue = false ∨ s.walker.headerWritten = false) :
    s.portStatusWrite p = s := by
  refine if_neg fun ⟨due, header⟩ => h.elim (fun off => ?_) fun off => ?_
  · rw [off] at due; cases due
  · rw [off] at header; cases header

variable (due : s.lines[p].statusDue = true) (header : s.walker.headerWritten = true)
include due header

theorem State.portStatusWrite_due : s.portStatusWrite p =
    ((s.statusDone p).writeWord (BitVec.ofNat 20 (0x10 + 4 * p.val)) (s.portStatusWord p)).2.raiseIf
      (!((s.statusDone p).writeWord (BitVec.ofNat 20 (0x10 + 4 * p.val)) (s.portStatusWord p)).1) .bus := by
  rw [← s.statusDone_word]
  exact if_pos ⟨due, header⟩

theorem State.portStatusWrite_good (quiet : s.bus = {}) : s.portStatusWrite p = { s.statusDone p with
    mem := s.mem.writeWord (s.busAddress (BitVec.ofNat 20 (0x10 + 4 * p.val))) (s.portStatusWord p) } := by
  rw [State.portStatusWrite_due due header, State.writeWord_quiet _ _ _ (by exact quiet)]
  rfl

theorem State.portStatusWrite_fails (fails : s.bus = { cycles := errorAfter 0 }) :
    s.portStatusWrite p = withCause { s.statusDone p with bus := {} } .bus := by
  rw [State.portStatusWrite_due due header,
    State.writeWord_failed (State.busCycle_fails (s := s.statusDone p) fails)]
  rfl

end

/-! ### The supervision word (09 R175) -/

theorem index_and_q (index : Nat) (q : BitVec 4) : octet (q.toNat + 16 * (index % 4)) = (BitVec.ofNat 4 index &&& 3#4) ++ q := by
  have low : (BitVec.ofNat 4 index &&& 3#4).toNat = index % 4 := by
    rw [BitVec.toNat_and, BitVec.toNat_ofNat, show (3#4).toNat = 2 ^ 2 - 1 from rfl, Nat.and_two_pow_sub_one_eq_mod]
    omega
  apply BitVec.eq_of_toNat_eq
  rw [BitVec.toNat_append, low, ← Nat.shiftLeft_add_eq_or_of_lt q.isLt, Nat.shiftLeft_eq, octet, BitVec.toNat_ofNat]
  have := q.isLt
  omega

theorem Supervision.word_eq (v : Supervision) : v.word =
    wordOf v.mode.code (v.phase.code ||| (if v.bad then 0x80 else 0)) (BitVec.ofNat 8 v.errorCount)
      ((BitVec.ofNat 4 v.index &&& 3#4) ++ v.q) := by
  rw [Supervision.word, flagBit_seven, index_and_q]
  rfl

section
variable {s : State}

/-- The state in which the write of the supervision word is no longer due. -/
def State.wordDone (s : State) : State := s.onSupervision fun v => { v with wordDue := false }

theorem State.supervisionWordWrite_not (h : s.supervision.wordDue = false ∨ s.walker.headerWritten = false) :
    s.supervisionWordWrite = s := by
  refine if_neg fun ⟨due, header⟩ => h.elim (fun off => ?_) fun off => ?_
  · rw [off] at due; cases due
  · rw [off] at header; cases header

variable (due : s.supervision.wordDue = true) (header : s.walker.headerWritten = true)
include due header

theorem State.supervisionWordWrite_due : s.supervisionWordWrite =
    (s.wordDone.writeWord 0x0C s.supervision.word).2.raiseIf (!(s.wordDone.writeWord 0x0C s.supervision.word).1) .bus :=
  if_pos ⟨due, header⟩

theorem State.supervisionWordWrite_good (quiet : s.bus = {}) : s.supervisionWordWrite = { s.wordDone with
    mem := s.mem.writeWord (s.busAddress 0x0C) s.supervision.word } := by
  rw [State.supervisionWordWrite_due due header, State.writeWord_quiet _ _ _ (by exact quiet)]
  rfl

theorem State.supervisionWordWrite_fails (fails : s.bus = { cycles := errorAfter 0 }) :
    s.supervisionWordWrite = withCause { s.wordDone with bus := {} } .bus := by
  rw [State.supervisionWordWrite_due due header, State.writeWord_failed (State.busCycle_fails (s := s.wordDone) fails)]
  rfl

end

/-! ### The words of the activity image (04 R82) -/

theorem oneBit (k : Nat) {i : Nat} (hi : i < 32) : ((1 : Word) <<< k).getLsbD i = (k == i) := by
  rw [BitVec.getLsbD_shiftLeft, show (1 : Word) = 1#32 from rfl, BitVec.getLsbD_one, Bool.eq_iff_iff]
  simp only [Bool.and_eq_true, Bool.not_eq_true', decide_eq_true_eq, decide_eq_false_iff_not, beq_iff_eq]
  omega

/-- The flags of a list of slots gathered into a word, each with its bit. -/
theorem gather_bit (l : List (SlotActivity × Nat)) (w : Word) {i : Nat} (hi : i < 32) :
    (l.foldl (fun w e => if e.1.active then w ||| (1 : Word) <<< e.2 else w) w).getLsbD i =
      (w.getLsbD i || l.any fun e => e.1.active && e.2 == i) := by
  induction l generalizing w with
  | nil => simp
  | cons e l ih =>
    rw [List.foldl_cons, ih, List.any_cons, ← Bool.or_assoc]
    congr 1
    cases active : e.1.active with
    | false => simp
    | true => simp only [if_true, BitVec.getLsbD_or, oneBit e.2 hi, Bool.true_and]

theorem Activity.imageWord_bit (a : Activity) (j : Nat) {i : Nat} (hi : i < 32) :
    (a.imageWord j).getLsbD i = if h : 32 * j + i < 120 then a.slots[32 * j + i].active else false := by
  have entry (e : SlotActivity) : (e, i) ∈ ((a.slots.toList.drop (32 * j)).take 32).zipIdx ↔ a.slots.toList[32 * j + i]? = some e := by
    rw [List.mem_zipIdx_iff_getElem?, List.getElem?_take, if_pos hi, List.getElem?_drop]
  have zero : (0 : Word).getLsbD i = false := BitVec.getLsbD_zero
  rw [Activity.imageWord, gather_bit _ _ hi, zero, Bool.false_or, Bool.eq_iff_iff, List.any_eq_true]
  split
  · next inside =>
    have here : a.slots.toList[32 * j + i]? = some a.slots[32 * j + i] := by simp [inside]
    constructor
    · rintro ⟨⟨e, k⟩, he, bit⟩
      obtain ⟨active, same⟩ := Bool.and_eq_true_iff.1 bit
      obtain rfl : k = i := beq_iff_eq.1 same
      rw [(entry e).1 he] at here
      cases here
      exact active
    · exact fun active => ⟨(_, i), (entry _).2 here, Bool.and_eq_true_iff.2 ⟨active, beq_self_eq_true i⟩⟩
  · next outside =>
    refine ⟨?_, fun h => absurd h Bool.false_ne_true⟩
    rintro ⟨⟨e, k⟩, he, bit⟩
    obtain rfl : k = i := beq_iff_eq.1 (Bool.and_eq_true_iff.1 bit).2
    have inside := (List.getElem?_eq_some_iff.1 ((entry e).1 he)).1
    exact absurd (by simpa using inside) outside

/-! ### The write of the activity image (04 R82 to R85) -/

/-- An image write that has come to word `next`, on memory `m` and with bus `b`. -/
def State.imaging (s : State) (m : Memory) (b : Bus) (next : Option Nat) (raise : Bool) : State :=
  { s with mem := m, bus := b, activity := { s.activity with imageNext := next, raiseNow := raise } }

/-- Memory after `k` words of the image from word `j` on. -/
def State.imageMem (s : State) (m : Memory) (j k : Nat) : Memory :=
  (List.range k).foldl (fun m i =>
    m.writeWord (s.busAddress (BitVec.ofNat 20 (0x20 + 4 * (j + i)))) (s.activity.imageWord (j + i))) m

section
variable (s : State) {m : Memory} {raise : Bool}

theorem State.imageMem_succ (m : Memory) (j k : Nat) : s.imageMem m j (k + 1) =
    s.imageMem (m.writeWord (s.busAddress (BitVec.ofNat 20 (0x20 + 4 * j))) (s.activity.imageWord j)) (j + 1) k := by
  have next (i : Nat) : j + Nat.succ i = j + 1 + i := by omega
  unfold State.imageMem
  rw [List.range_succ_eq_map, List.foldl_cons, List.foldl_map]
  refine congrArg₂ (fun f m => List.foldl f m (List.range k)) (funext₂ fun m i => ?_) rfl
  rw [next]

theorem State.imaging_write {b c : Bus} {next : Option Nat} (j : Nat) (cycle : (s.imaging m b next raise).busCycle =
    (true, s.imaging m c next raise)) :
    (s.imaging m b next raise).writeWord (BitVec.ofNat 20 (0x20 + 4 * j)) ((s.imaging m b next raise).activity.imageWord j) =
      (true, s.imaging (m.writeWord (s.busAddress (BitVec.ofNat 20 (0x20 + 4 * j))) (s.activity.imageWord j)) c next raise) :=
  State.writeWord_good cycle _ _

/-- A word that is written well, and what then comes. -/
theorem State.imageWords_good {b c : Bus} {j : Nat} (k : Nat) (cycle : (s.imaging m b (some j) raise).busCycle =
    (true, s.imaging m c (some j) raise)) : (s.imaging m b (some j) raise).imageWords (k + 1) j =
      if j = 3 then (s.imaging (m.writeWord (s.busAddress (BitVec.ofNat 20 (0x20 + 4 * j))) (s.activity.imageWord j)) c none false).raiseIf
        raise .activity
      else (s.imaging (m.writeWord (s.busAddress (BitVec.ofNat 20 (0x20 + 4 * j))) (s.activity.imageWord j)) c (some (j + 1)) raise).imageWords
        k (j + 1) := by
  rw [State.imageWords, s.imaging_write j cycle]
  rfl

theorem State.imageWords_failed (k : Nat) (j : Nat) : (s.imaging m { cycles := errorAfter 0 } (some j) raise).imageWords (k + 1) j =
    (withCause (s.imaging m {} none false) .bus).raiseIf raise .activity := by
  rw [State.imageWords, State.writeWord_failed (State.busCycle_fails rfl)]
  rfl

/-- A command of fewer words than are left. -/
theorem State.imageWords_left (words : Nat) (m : Memory) (j : Nat) (h : j + words < 4) :
    (s.imaging m {} (some j) raise).imageWords words j = s.imaging (s.imageMem m j words) {} (some (j + words)) raise := by
  induction words generalizing m j with
  | zero => rfl
  | succ words ih =>
    rw [s.imageWords_good words (State.busCycle_quiet _ rfl), if_neg (by omega), ih _ _ (by omega), s.imageMem_succ,
      Nat.add_assoc, Nat.add_comm 1]

/-- A command of as many words as are left, or more. -/
theorem State.imageWords_ends (words : Nat) (m : Memory) (j : Nat) (hj : j < 4) (h : 4 ≤ j + words) :
    (s.imaging m {} (some j) raise).imageWords words j = (s.imaging (s.imageMem m j (4 - j)) {} none false).raiseIf raise .activity := by
  induction words generalizing m j with
  | zero => omega
  | succ words ih =>
    rw [s.imageWords_good words (State.busCycle_quiet _ rfl)]
    by_cases last : j = 3
    · subst last
      rw [if_pos rfl]
      rfl
    · rw [if_neg last, ih _ _ (by omega) (by omega), show 4 - j = 4 - (j + 1) + 1 by omega, s.imageMem_succ]

/-- A bus error after `k` words ends the image. -/
theorem State.imageWords_fails (k : Nat) (words : Nat) (m : Memory) (j : Nat) (h : k < words) (inside : j + k < 4) :
    (s.imaging m { cycles := errorAfter k } (some j) raise).imageWords words j =
      (withCause (s.imaging (s.imageMem m j k) {} none false) .bus).raiseIf raise .activity := by
  induction k generalizing words m j with
  | zero =>
    obtain ⟨words, rfl⟩ : ∃ n, words = n + 1 := ⟨words - 1, by omega⟩
    exact s.imageWords_failed words j
  | succ k ih =>
    obtain ⟨words, rfl⟩ : ∃ n, words = n + 1 := ⟨words - 1, by omega⟩
    rw [s.imageWords_good words (c := { cycles := errorAfter k }) (State.busCycle_before rfl), if_neg (by omega),
      ih _ _ _ (by omega) (by omega), s.imageMem_succ]

end

section
variable {s : State}

theorem State.imaging_self {j : Nat} (h : s.activity.imageNext = some j) (b : Bus) :
    s.setBus b = s.imaging s.mem b (some j) s.activity.raiseNow := by
  unfold State.imaging
  rw [← h]
  rfl

theorem State.activityImageWrite_not (h : (s.activity.imageNext = none ∧ s.activity.imageDue = false) ∨ s.walker.headerWritten = false)
    (words : Nat) : s.activityImageWrite words = s := by
  unfold State.activityImageWrite
  rcases h with ⟨none_, calm⟩ | off
  · rw [none_, calm]
    exact ite_self _
  · rw [off]
    rfl

variable (header : s.walker.headerWritten = true)
include header

theorem State.activityImageWrite_next {j : Nat} (next : s.activity.imageNext = some j) (words : Nat) :
    s.activityImageWrite words = s.imageWords words j := by
  rw [State.activityImageWrite, if_pos header, next]

theorem State.activityImageWrite_begins (next : s.activity.imageNext = none) (due : s.activity.imageDue = true) (words : Nat) :
    s.activityImageWrite words = (s.onActivity Activity.beginImage).imageWords words 0 := by
  rw [State.activityImageWrite, if_pos header, next]
  exact if_pos due

end

/-! ### The commands -/

section
variable (s : State) (bus : List BusCycle) (hp : s.regs.poreset = false)
include hp

theorem exec_portStatusWrite (p : Port) : exec (.portStatusWrite p bus) s =
    .next (((s.setBus { cycles := bus, cut := false }).portStatusWrite p).setBus {}) :=
  whileReleasedBus_next s bus (fun s => s.portStatusWrite p) hp

theorem exec_supervisionWordWrite : exec (.supervisionWordWrite bus) s =
    .next ((s.setBus { cycles := bus, cut := false }).supervisionWordWrite.setBus {}) :=
  whileReleasedBus_next s bus State.supervisionWordWrite hp

theorem exec_activityImageWrite (words : Nat) : exec (.activityImageWrite words bus) s =
    .next (((s.setBus { cycles := bus, cut := false }).activityImageWrite words).setBus {}) :=
  whileReleasedBus_next s bus (fun s => s.activityImageWrite words) hp

end

/-- An image that has begun and ended leaves no attention owed. -/
theorem Activity.beginImage_ended {a : Activity} (h : a.imageNext = none) :
    ({ a.beginImage with imageNext := none, raiseNow := false } : Activity) =
      { a with imageDue := false, raiseNow := false, raiseAfter := false } := by
  obtain ⟨⟩ := a
  cases h
  rfl

theorem State.imageMem_all (s : State) (m : Memory) : s.imageMem m 0 (4 - 0) = [0, 1, 2, 3].foldl (fun m j =>
    m.writeWord (s.busAddress (BitVec.ofNat 20 (0x20 + 4 * j))) (s.activity.imageWord j)) m := by
  unfold State.imageMem
  simp only [Nat.zero_add]
  rfl

theorem State.imageMem_begun (s : State) (m : Memory) (j k : Nat) :
    (s.onActivity Activity.beginImage).imageMem m j k = s.imageMem m j k := rfl

/-- Settles O46. -/
theorem statusWordsWritten : Obligations.StatusWordsWritten := by
  refine ⟨⟨rfl, rfl, rfl, rfl, rfl, rfl, rfl, rfl, rfl, rfl, rfl, rfl, rfl, rfl, rfl, rfl, rfl⟩,
    fun s p hp due header => ⟨?_, ?_⟩, fun s p bus hp h => ?_, fun s hp due header => ⟨?_, ?_⟩,
    fun s hp header next due => ?_, fun s bus hp => ⟨fun h => ?_, fun words => ⟨fun h => ?_, fun header next due => ?_⟩⟩,
    fun s j words hp header next hj => ⟨fun more => ?_, fun last => ?_, fun k hk inside => ?_⟩,
    fun a j i hj hi => a.imageWord_bit j hi⟩
  · rw [exec_portStatusWrite s _ hp, State.portStatusWrite_good (by exact due) (by exact header) rfl, State.portStatusWord_eq]
    rfl
  · rw [exec_portStatusWrite s _ hp, State.portStatusWrite_fails (by exact due) (by exact header) rfl]
    rfl
  · rw [exec_portStatusWrite s _ hp, State.portStatusWrite_not (by exact h)]
    rfl
  · rw [exec_supervisionWordWrite s _ hp, State.supervisionWordWrite_good (by exact due) (by exact header) rfl, Supervision.word_eq]
    rfl
  · rw [exec_supervisionWordWrite s _ hp, State.supervisionWordWrite_fails (by exact due) (by exact header) rfl]
    rfl
  · rw [exec_activityImageWrite s _ hp, State.activityImageWrite_begins (by exact header) (by exact next) (by exact due)]
    have begun : (s.setBus {}).onActivity Activity.beginImage =
        (s.onActivity Activity.beginImage).imaging s.mem {} (some 0) s.activity.raiseAfter := rfl
    rw [← Activity.beginImage_ended next, begun, State.imageWords_ends _ 4 s.mem 0 (by omega) (by omega), State.raiseIf_eq,
      State.imageMem_begun, State.imageMem_all]
    generalize ([0, 1, 2, 3].foldl _ s.mem : Memory) = m
    cases s.activity.raiseAfter <;> rfl
  · rw [exec_supervisionWordWrite s _ hp, State.supervisionWordWrite_not (by exact h)]
    rfl
  · rw [exec_activityImageWrite s _ hp, State.activityImageWrite_not (by exact h)]
    rfl
  · rw [exec_activityImageWrite s _ hp, State.activityImageWrite_begins (by exact header) (by exact next) (by exact due),
      exec_activityImageWrite _ _ (by exact hp), State.activityImageWrite_next (j := 0) (by exact header) rfl]
    rfl
  · rw [exec_activityImageWrite s _ hp, State.activityImageWrite_next (by exact header) (by exact next), State.imaging_self next,
      State.imageWords_left _ _ _ _ more]
    cases s.activity.raiseNow <;> rfl
  · rw [exec_activityImageWrite s _ hp, State.activityImageWrite_next (by exact header) (by exact next), State.imaging_self next,
      State.imageWords_ends _ _ _ _ hj last, State.raiseIf_eq]
    cases s.activity.raiseNow <;> rfl
  · rw [exec_activityImageWrite s _ hp, State.activityImageWrite_next (by exact header) (by exact next), State.imaging_self next,
      State.imageWords_fails _ _ _ _ _ hk inside, State.raiseIf_eq]
    cases s.activity.raiseNow <;> rfl

end Sys2Proof.Machine
end

section
/-! PROOFS. Loud octets judged, and the monitor's work at a block boundary at which no stream waits. -/

namespace Sys2Proof.Machine

/-! ### Loud octets (04 R78, R79) -/

theorem magnitude_eq (x : Octet) : magnitude x = x.toInt.natAbs := by
  have := x.isLt
  rw [magnitude, BitVec.toInt_eq_toNat_cond]
  split <;> split <;> omega

theorem State.loud_iff (s : State) (k : SlotIndex) : s.loud k = true ↔ s.lines[SlotIndex.port k].seen = true ∧
    s.activity.threshold ≤ (s.lines[SlotIndex.port k].rx.presented[SlotIndex.slot k]).toInt.natAbs := by
  rw [State.loud, Bool.and_eq_true, decide_eq_true_iff, magnitude_eq]
  rfl

theorem State.judgeOctets_counted (s : State) (k : SlotIndex) : s.judgeOctets.activity.counted[k] = s.loud k := tabulate_get _ _ _

theorem State.judgeOctets_slot (s : State) (k : SlotIndex) : s.judgeOctets.activity.slots[k] =
    if s.loud k then { s.activity.slots[k] with loud := s.activity.slots[k].loud + 1 } else s.activity.slots[k] := tabulate_get _ _ _

section
variable {s : State}

theorem State.judgeWork_due (judge : s.activity.judgeDue = true) (done : s.activity.classifyDue = false) :
    s.judgeWork = s.judgeOctets := if_pos ⟨judge, by rw [done]; exact Bool.false_ne_true⟩

/-! ### The classification (04 R80, R82, R85) -/

/-- The classification changes a flag. -/
def Activity.anyChanged (a : Activity) : Bool := allSlots.any fun k => a.changed k

/-- The classification changes a flag in the watch set. -/
def Activity.watchChanged (a : Activity) : Bool := allSlots.any fun k => a.changed k && a.watch.getLsbD k.val

theorem Activity.anyChanged_iff (a : Activity) : a.anyChanged = true ↔ ∃ k, a.changed k = true := by
  rw [Activity.anyChanged, List.any_eq_true]
  exact ⟨fun ⟨k, _, h⟩ => ⟨k, h⟩, fun ⟨k, h⟩ => ⟨k, List.mem_finRange k, h⟩⟩

theorem Activity.watchChanged_iff (a : Activity) :
    a.watchChanged = true ↔ ∃ k, a.changed k = true ∧ a.watch.getLsbD k.val = true := by
  rw [Activity.watchChanged, List.any_eq_true]
  simp only [Bool.and_eq_true]
  exact ⟨fun ⟨k, _, h⟩ => ⟨k, h⟩, fun ⟨k, h⟩ => ⟨k, List.mem_finRange k, h⟩⟩

/-- The monitor after the work of a block boundary; `header` is the header-written flag. -/
def Activity.blocked (a : Activity) (loud : SlotIndex → Bool) (header : Bool) : Activity :=
  { a with
    slots := tabulate 120 fun k => if loud k then { a.classified[k] with loud := a.classified[k].loud + 1 } else a.classified[k]
    counted := tabulate 120 loud
    judgeDue := false
    classifyDue := false
    imageDue := a.imageDue || a.anyChanged
    raiseAfter := a.raiseAfter || (a.watchChanged && header) }

/-- Attention at once, where the header-written flag is clear (04 R85). -/
def State.blockedRegs (s : State) : Registers :=
  if s.activity.watchChanged && !s.walker.headerWritten then (withCause s .activity).regs else s.regs

theorem State.raiseIf_onActivity (s : State) (f : Activity → Activity) (b : Bool) (c : Cause) : (s.onActivity f).raiseIf b c =
    { s with regs := if b then (withCause s c).regs else s.regs, activity := f s.activity } := by
  cases b <;> rfl

theorem State.classify_due (due : s.activity.classifyDue = true) : s.classify = { s with
    regs := s.blockedRegs
    activity := { s.activity with
      slots := s.activity.classified
      classifyDue := false
      imageDue := s.activity.imageDue || s.activity.anyChanged
      raiseAfter := s.activity.raiseAfter || (s.activity.watchChanged && s.walker.headerWritten) } } := by
  rw [State.classify, if_pos due]
  exact s.raiseIf_onActivity _ _ _

theorem State.blockBegun_due (classify : s.activity.classifyDue = true) (judge : s.activity.judgeDue = true) : s.blockBegun = { s with
    regs := s.blockedRegs
    timer := { s.timer with blockDue := false }
    activity := s.activity.blocked s.loud s.walker.headerWritten } := by
  unfold State.blockBegun State.activityBlock
  rw [State.classify_due (by exact classify), State.judgeWork_due (by exact judge) rfl]
  rfl

end

section
variable (a : Activity) (loud : SlotIndex → Bool) (header : Bool) (k : SlotIndex)

theorem Activity.blocked_slot : (a.blocked loud header).slots[k] =
    { SlotActivity.classify a.onset a.hang a.slots[k] with loud := if loud k then 1 else 0 } := by
  have slot : (a.blocked loud header).slots[k] =
      if loud k then { a.classified[k] with loud := a.classified[k].loud + 1 } else a.classified[k] := tabulate_get _ _ _
  rw [slot, Activity.classified, mapAll_get]
  cases loud k <;> rfl

theorem Activity.blocked_counted : (a.blocked loud header).counted[k] = loud k := tabulate_get _ _ _

theorem Activity.changed_iff : a.changed k = true ↔ (a.blocked loud header).slots[k].active ≠ a.slots[k].active := by
  rw [Activity.changed, bne_iff_ne, Activity.blocked_slot]

end

section
variable {onset hang : Nat} {e : SlotActivity}

theorem SlotActivity.classify_loud (h : onset ≤ e.loud) : SlotActivity.classify onset hang e = { e with active := true, hang := hang } :=
  if_pos h

section
variable (few : e.loud < onset)
include few

theorem SlotActivity.classify_hangs (active : e.active = true) (hangs : 0 < e.hang) :
    SlotActivity.classify onset hang e = { e with hang := e.hang - 1 } :=
  (if_neg (by omega)).trans ((if_pos active).trans (if_pos hangs))

theorem SlotActivity.classify_ends (active : e.active = true) (done : e.hang = 0) :
    SlotActivity.classify onset hang e = { e with active := false, hang := 0 } :=
  (if_neg (by omega)).trans ((if_pos active).trans (if_neg (by omega)))

theorem SlotActivity.classify_silent (active : e.active = false) : SlotActivity.classify onset hang e = e :=
  (if_neg (by omega)).trans (if_neg (by rw [active]; exact Bool.false_ne_true))

end
end

/-- A slot after the work of a block boundary. -/
theorem State.blocked_slot (s : State) (k : SlotIndex) : (s.activity.blocked s.loud s.walker.headerWritten).slots[k] =
    { SlotActivity.classify s.activity.onset s.activity.hang s.activity.slots[k] with
      loud := if s.lines[SlotIndex.port k].seen = true ∧
        s.activity.threshold ≤ (s.lines[SlotIndex.port k].rx.presented[SlotIndex.slot k]).toInt.natAbs then 1 else 0 } := by
  rw [Activity.blocked_slot, if_congr (s.loud_iff k) rfl rfl]

section
variable {s : State}

theorem State.blocked_attn_after (watched : s.activity.watchChanged = true) (header : s.walker.headerWritten = true) :
    (s.activity.blocked s.loud s.walker.headerWritten).raiseAfter = true ∧ s.blockedRegs = s.regs := by
  simp [Activity.blocked, State.blockedRegs, watched, header]

theorem State.blocked_attn_now (watched : s.activity.watchChanged = true) (clear : s.walker.headerWritten = false) :
    (s.activity.blocked s.loud s.walker.headerWritten).raiseAfter = s.activity.raiseAfter ∧
      s.blockedRegs = (withCause s .activity).regs := by
  simp [Activity.blocked, State.blockedRegs, watched, clear]

theorem State.blocked_attn_none (unwatched : s.activity.watchChanged = false) :
    (s.activity.blocked s.loud s.walker.headerWritten).raiseAfter = s.activity.raiseAfter ∧ s.blockedRegs = s.regs := by
  simp [Activity.blocked, State.blockedRegs, unwatched]

end

section
variable {v : Supervision}

theorem Supervision.tickReset_counts {n : Nat} (on : v.resetOut = some n) (tick : v.resetTick = true) (more : 2 ≤ n) :
    v.tickReset = { v with resetOut := some (n - 1), resetTick := false } := by
  rw [Supervision.tickReset, on]
  exact if_pos ⟨tick, more⟩

theorem Supervision.tickReset_off (off : v.resetOut = none) : v.tickReset = v := by
  rw [Supervision.tickReset, off]

end

/-- A block boundary at which no stream waits. -/
theorem exec_blockBoundary_rests {s : State} (late : List StreamNo) (bus : List BusCycle) (hp : s.regs.poreset = false)
    (due : s.timer.blockDue = true) (classify : s.activity.classifyDue = true) (judge : s.activity.judgeDue = true)
    (rests : ∀ (n : StreamNo) d, s.streams[n].desc = some d → d.resumeDue = false) :
    exec (.blockBoundary late bus) s = .next { s with
      bus := {}
      regs := s.blockedRegs
      timer := { s.timer with blockDue := false }
      activity := s.activity.blocked s.loud s.walker.headerWritten
      router := { s.router with probes := s.router.probes.map fun e =>
        if e.tickDue = true ∧ 2 ≤ e.blocks then { e with blocks := e.blocks - 1, tickDue := false } else e }
      supervision := s.supervision.tickReset } := by
  have begun := State.blockBegun_due classify judge
  have streams : s.blockBegun.streams = s.streams := by rw [begun]
  have rest : allStreams.foldl (fun s n => s.blockStream late n) (s.blockBegun.setBus { cycles := bus }) =
      s.blockBegun.setBus { cycles := bus } := State.blockStreams_notDue _ _ fun n _ d open_ => rests n d (by
        rw [← streams]
        exact open_)
  rw [exec_blockBoundary_due s late bus hp due, rest, begun]
  rfl

/-- Settles O47. -/
theorem loudAndClassified : Obligations.LoudAndClassified := by
  refine ⟨fun s hp judge done =>
      ⟨s.judgeOctets.activity.slots, s.judgeOctets.activity.counted, ?_, fun k => ⟨?_, ?_⟩⟩, fun s late bus hp due classify judge rests => ?_⟩
  · rw [exec_doWork s _ hp, State.doWork, State.judgeWork_due (by exact judge) (by exact done)]
    rfl
  · rw [s.judgeOctets_counted]
    exact s.loud_iff k
  · rw [s.judgeOctets_slot]
    exact if_congr (s.loud_iff k) rfl rfl
  have changed := s.activity.changed_iff s.loud s.walker.headerWritten
  have watch : s.activity.watchChanged = true ↔ ∃ k : SlotIndex,
      (s.activity.blocked s.loud s.walker.headerWritten).slots[k].active ≠ s.activity.slots[k].active ∧
        s.activity.watch.getLsbD k.val = true :=
    s.activity.watchChanged_iff.trans (exists_congr fun k => and_congr_left fun _ => changed k)
  refine ⟨_, exec_blockBoundary_rests late bus hp due classify judge rests, rfl, rfl,
    fun k => ⟨?_, fun loud => ?_, fun few active hangs => ?_, fun few active ends => ?_, fun few silent => ?_⟩, ?_,
    ⟨fun watched header => ?_, fun watched clear => ?_, fun none_ => ?_⟩, rfl, fun n on tick more => ?_, fun off => ?_⟩
  · dsimp only
    rw [Activity.blocked_counted]
    exact s.loud_iff k
  · exact (s.blocked_slot k).trans (by rw [SlotActivity.classify_loud loud])
  · exact (s.blocked_slot k).trans (by rw [SlotActivity.classify_hangs few active hangs, active])
  · exact (s.blocked_slot k).trans (by rw [SlotActivity.classify_ends few active ends])
  · exact (s.blocked_slot k).trans (by rw [SlotActivity.classify_silent few silent])
  · show (s.activity.imageDue || s.activity.anyChanged) = true ↔ _
    rw [Bool.or_eq_true, s.activity.anyChanged_iff]
    exact or_congr Iff.rfl (exists_congr changed)
  · exact State.blocked_attn_after (watch.2 watched) header
  · exact State.blocked_attn_now (watch.2 watched) clear
  · exact State.blocked_attn_none (Bool.eq_false_iff.2 fun watched => none_ (watch.1 watched))
  · exact Supervision.tickReset_counts on tick more
  · exact Supervision.tickReset_off off

end Sys2Proof.Machine
end

section
/-! PROOFS. Messages as bytes (07 7.1): the sum, the kinds, a message of its own bytes, the judgement of a byte. -/

namespace Sys2Proof.Machine

/-! ### The sum of bytes -/

theorem byteSum_append (l : List Octet) (b : Octet) : byteSum (l ++ [b]) = byteSum l + b :=
  List.foldl_append

theorem byteSum_toNat (l : List Octet) : byteSum l = BitVec.ofNat 8 (l.map BitVec.toNat).sum := by
  induction l using List.reverseRecOn with
  | nil => rfl
  | append_singleton l b ih =>
    rw [byteSum_append, ih, List.map_append, List.sum_append, BitVec.ofNat_add]
    simp

theorem Message.bytes_sum (m : Message) : byteSum m.bytes = 0 := by
  rw [Message.bytes, byteSum_append]
  exact BitVec.add_right_neg _

theorem Message.size_eq (m : Message) : m.size = m.bytes.length := by
  simp only [Message.size, Message.bytes, Message.body, List.length_append, List.length_cons, List.length_nil]
  omega

/-! ### Kinds -/

theorem messageKind?_nibble (k : MessageKind) : messageKind? k.nibble = some k := by cases k <;> rfl

theorem messageKind?_some {n : BitVec 4} {k : MessageKind} (h : messageKind? n = some k) : k.nibble = n := by
  revert n k
  decide

theorem messageKind?_none {n : BitVec 4} (h : messageKind? n = none) : n.toNat = 0 ∨ 5 < n.toNat := by
  revert n
  decide

theorem messageKind?_kind {n : BitVec 4} (low : 1 ≤ n.toNat) (high : n.toNat ≤ 5) : ∃ k, messageKind? n = some k :=
  match h : messageKind? n with
  | some k => ⟨k, rfl⟩
  | none => absurd (messageKind?_none h) (by omega)

theorem MessageKind.nibble_toNat (k : MessageKind) : 1 ≤ k.nibble.toNat ∧ k.nibble.toNat ≤ 5 := by cases k <;> decide

theorem MessageKind.nibble_identify (k : MessageKind) : k.nibble.toNat = 1 ↔ k = .identify := by cases k <;> decide

/-! ### A message of its bytes -/

theorem hopKind_low (hop kind : BitVec 4) : (hop ++ kind).setWidth 4 = kind := BitVec.setWidth_append_eq_right

theorem hopKind_high (hop kind : BitVec 4) : (hop ++ kind).extractLsb' 4 4 = hop := BitVec.extractLsb'_append_eq_left

theorem hopKind_eq (b : Octet) : b.extractLsb' 4 4 ++ b.setWidth 4 = b := by revert b; decide

theorem messageOf_kind {l : List Octet} {k : MessageKind} (h : messageKind? ((l.getD 2 0).setWidth 4) = some k) :
    messageOf l = some { dest := l.getD 0 0, source := l.getD 1 0, hop := (l.getD 2 0).extractLsb' 4 4, kind := k,
                         payload := (l.drop 4).take (l.getD 3 0).toNat } := by
  rw [messageOf, h]

theorem messageOf_none {l : List Octet} (h : messageKind? ((l.getD 2 0).setWidth 4) = none) : messageOf l = none := by
  rw [messageOf, h]

theorem messageOf_bytes (m : Message) (short : m.payload.length ≤ 48) : messageOf m.bytes = some m := by
  have kind : messageKind? ((m.bytes.getD 2 0).setWidth 4) = some m.kind :=
    (congrArg messageKind? (hopKind_low m.hop m.kind.nibble)).trans (messageKind?_nibble m.kind)
  have hop : (m.bytes.getD 2 0).extractLsb' 4 4 = m.hop := hopKind_high m.hop m.kind.nibble
  have length : (m.bytes.getD 3 0).toNat = m.payload.length := octet_toNat (by omega)
  have payload : (m.bytes.drop 4).take m.payload.length = m.payload := List.take_left
  rw [messageOf_kind kind, hop, length, payload]
  rfl

theorem messageOf_some {l : List Octet} {g : Message} (h : messageOf l = some g) :
    g.dest = l.getD 0 0 ∧ g.source = l.getD 1 0 ∧ g.hop ++ g.kind.nibble = l.getD 2 0 ∧
    g.payload = (l.drop 4).take (l.getD 3 0).toNat := by
  cases kind : messageKind? ((l.getD 2 0).setWidth 4) with
  | none => rw [messageOf_none kind] at h; cases h
  | some k =>
    rw [messageOf_kind kind] at h
    cases h
    refine ⟨rfl, rfl, ?_, rfl⟩
    dsimp only
    rw [messageKind?_some kind]
    exact hopKind_eq _

theorem setWidth_toNat (b : Octet) : (b.setWidth 4 : BitVec 4).toNat = b.toNat % 16 := BitVec.toNat_setWidth ..

theorem messageOf_defined {l : List Octet} (low : 1 ≤ (l.getD 2 0).toNat % 16) (high : (l.getD 2 0).toNat % 16 ≤ 5) :
    ∃ g, messageOf l = some g := by
  rw [← setWidth_toNat] at low high
  obtain ⟨k, kind⟩ := messageKind?_kind low high
  exact ⟨_, messageOf_kind kind⟩

/-! ### The judgement of a byte (07 R136) -/

section
variable {only : Bool} {part : List Octet} {b : Octet} {last : Bool}

theorem judgeByte_lastInHeader (header : part.length < 4) : judgeByte only part b true = .reject :=
  (if_pos header).trans (if_pos rfl)

theorem judgeByte_kind {k : MessageKind} (third : part.length = 2) (kind : messageKind? (b.setWidth 4) = some k) :
    judgeByte only part b false = if only ∧ k ≠ .identify then .reject else .accept := by
  unfold judgeByte
  rw [if_pos (by omega), if_neg Bool.false_ne_true, if_pos third, kind]

theorem judgeByte_noKind (third : part.length = 2) (kind : messageKind? (b.setWidth 4) = none) :
    judgeByte only part b false = .reject := by
  unfold judgeByte
  rw [if_pos (by omega), if_neg Bool.false_ne_true, if_pos third, kind]

theorem judgeByte_badKind (third : part.length = 2)
    (bad : ((b.setWidth 4 : BitVec 4).toNat = 0 ∨ 5 < (b.setWidth 4 : BitVec 4).toNat) ∨
      only = true ∧ (b.setWidth 4 : BitVec 4).toNat ≠ 1) :
    judgeByte only part b false = .reject := by
  cases kind : messageKind? (b.setWidth 4) with
  | none => exact judgeByte_noKind third kind
  | some k =>
    rw [judgeByte_kind third kind]
    have code := messageKind?_some kind
    have range := k.nibble_toNat
    have identify := k.nibble_identify
    rw [code] at range identify
    exact if_pos (bad.elim (fun out => by omega) fun ⟨ready, other⟩ => ⟨ready, mt identify.2 other⟩)

theorem judgeByte_goodKind (third : part.length = 2) (low : 1 ≤ (b.setWidth 4 : BitVec 4).toNat)
    (high : (b.setWidth 4 : BitVec 4).toNat ≤ 5) (ready : only = true → (b.setWidth 4 : BitVec 4).toNat = 1) :
    judgeByte only part b false = .accept := by
  obtain ⟨k, kind⟩ := messageKind?_kind low high
  have identify := k.nibble_identify
  rw [messageKind?_some kind] at identify
  rw [judgeByte_kind third kind]
  exact if_neg fun ⟨only, other⟩ => other (identify.1 (ready only))

theorem judgeByte_early (early : part.length < 2) : judgeByte only part b false = .accept := by
  unfold judgeByte
  rw [if_pos (by omega), if_neg Bool.false_ne_true, if_neg (by omega), if_neg (by omega)]

theorem judgeByte_tooLong (fourth : part.length = 3) (long : 48 < b.toNat) : judgeByte only part b last = .reject := by
  unfold judgeByte
  rw [if_pos (by omega), if_neg (c := part.length = 2) (by omega), if_pos (c := part.length = 3 ∧ 48 < b.toNat) ⟨fourth, long⟩,
    ite_self]

theorem judgeByte_length (fourth : part.length = 3) (short : b.toNat ≤ 48) : judgeByte only part b false = .accept := by
  unfold judgeByte
  rw [if_pos (by omega), if_neg Bool.false_ne_true, if_neg (by omega), if_neg (by omega)]

theorem judgeByte_payload (header : 4 ≤ part.length) (more : part.length < 4 + (part.getD 3 0).toNat) :
    judgeByte only part b last = if last then .reject else .accept := by
  unfold judgeByte
  rw [if_neg (by omega), if_pos more]

theorem judgeByte_check (header : 4 ≤ part.length) (final : 4 + (part.getD 3 0).toNat ≤ part.length) :
    judgeByte only part b last = if last ∧ byteSum (part ++ [b]) = 0 then .complete else .reject := by
  unfold judgeByte
  rw [if_neg (by omega), if_neg (by omega)]

end

theorem judgeByte_cases (only : Bool) (part : List Octet) (b : Octet) (last : Bool) :
    let i := part.length
    let final := 4 + (part.getD 3 0).toNat
    let kind := (b.setWidth 4 : BitVec 4).toNat
    let verdict := judgeByte only part b last
    (i < 4 → last = true → verdict = .reject) ∧
    (i = 2 → last = false → (kind = 0 ∨ 5 < kind) ∨ (only = true ∧ kind ≠ 1) → verdict = .reject) ∧
    (i = 3 → 48 < b.toNat → verdict = .reject) ∧
    (i < 2 → last = false → verdict = .accept) ∧
    (i = 2 → last = false → 1 ≤ kind → kind ≤ 5 → (only = true → kind = 1) → verdict = .accept) ∧
    (i = 3 → last = false → b.toNat ≤ 48 → verdict = .accept) ∧
    (4 ≤ i → i < final → last = true → verdict = .reject) ∧ (4 ≤ i → i < final → last = false → verdict = .accept) ∧
    (4 ≤ i → final ≤ i → last = true → byteSum (part ++ [b]) = 0 → verdict = .complete) ∧
    (4 ≤ i → final ≤ i → last = false ∨ byteSum (part ++ [b]) ≠ 0 → verdict = .reject) := by
  refine ⟨fun header mark => ?_, fun third mark bad => ?_, judgeByte_tooLong, fun early mark => ?_, fun third mark low high ready => ?_,
    fun fourth mark short => ?_, fun header more mark => ?_, fun header more mark => ?_, fun header final mark sum => ?_,
    fun header final bad => ?_⟩
  · rw [mark]; exact judgeByte_lastInHeader header
  · rw [mark]; exact judgeByte_badKind third bad
  · rw [mark]; exact judgeByte_early early
  · rw [mark]; exact judgeByte_goodKind third low high ready
  · rw [mark]; exact judgeByte_length fourth short
  · exact (judgeByte_payload header more).trans (if_pos mark)
  · exact (judgeByte_payload header more).trans (if_neg (by rw [mark]; exact Bool.false_ne_true))
  · exact (judgeByte_check header final).trans (if_pos ⟨mark, sum⟩)
  · refine (judgeByte_check header final).trans (if_neg fun ⟨mark, sum⟩ => ?_)
    exact bad.elim (fun unmarked => absurd mark (by rw [unmarked]; exact Bool.false_ne_true)) (· sum)

/-! ### The marks (02 R30; 07 7.3) -/

theorem peerCode_iff (b : Octet) : (peerCode b == .ready) = true ↔ b.extractLsb' 5 3 = 5#3 := by
  rw [beq_iff_eq]
  refine ⟨fun h => ?_, peerCode_ready⟩
  by_contra other
  by_cases wake : b.extractLsb' 5 3 = 3#3
  · rw [peerCode_wake wake] at h; cases h
  · rw [peerCode_quiet wake other] at h; cases h

theorem Channel.marks_bits (c : Channel) : c.marks.getLsbD 4 = c.offer ∧ c.marks.getLsbD 3 = c.last ∧
    c.marks.getLsbD 2 = c.quit ∧ c.marks.getLsbD 1 = c.take ∧ c.marks.getLsbD 0 = c.halt := by
  unfold Channel.marks
  generalize c.offer = a1, c.last = a2, c.quit = a3, c.take = a4, c.halt = a5
  revert a1 a2 a3 a4 a5
  decide

theorem Channel.slot0_idle {c : Channel} (h : c.sender ≠ .offering) : c.slot0 = idleOctet := by
  unfold Channel.slot0
  split
  · next offering _ => exact absurd offering h
  · rfl

theorem Channel.slot0_offering {c : Channel} {f : InFlight} (h : c.sender = .offering) (inFlight : c.inFlight = some f) :
    c.slot0 = f.item.msg.bytes.getD f.index idleOctet := by
  rw [Channel.slot0, h, inFlight]

end Sys2Proof.Machine
end

section
/-! PROOFS. The work of a control channel: what it presents to its line unit, and the sender (07 7.2, 7.3). -/

namespace Sys2Proof.Machine

/-! ### What reporting and routing leave of the channels -/

/-- Every sender and every receiver is in the state it was in. -/
def State.EndsKept (s t : State) : Prop :=
  ∀ p : Port, t.channels[p].sender = s.channels[p].sender ∧ t.channels[p].receiver = s.channels[p].receiver

theorem State.EndsKept.refl (s : State) : s.EndsKept s := fun _ => ⟨rfl, rfl⟩

theorem State.EndsKept.trans {s t u : State} (h : s.EndsKept t) (k : t.EndsKept u) : s.EndsKept u :=
  fun p => ⟨(k p).1.trans (h p).1, (k p).2.trans (h p).2⟩

theorem State.EndsKept.of_channels {s t : State} (h : t.channels = s.channels) : s.EndsKept t := fun p => by rw [h]; exact ⟨rfl, rfl⟩

theorem State.onChannel_endsKept (s : State) (q : Port) (f : Channel → Channel) (sender : (f s.channels[q]).sender = s.channels[q].sender)
    (receiver : (f s.channels[q]).receiver = s.channels[q].receiver) : s.EndsKept (s.onChannel q f) := by
  intro p
  change (s.channels.set q (f s.channels[q]))[p].sender = _ ∧ (s.channels.set q (f s.channels[q]))[p].receiver = _
  by_cases same : p = q
  · rw [same, Vector.get_set_same]
    exact ⟨sender, receiver⟩
  · rw [Vector.get_set_other _ _ same]
    exact ⟨rfl, rfl⟩

section
variable (s : State) (m : Message)

theorem State.enqueue_endsKept (p : Port) (q : Queued) : s.EndsKept (s.enqueue p q) := s.onChannel_endsKept p _ rfl rfl

theorem State.deliver_endsKept (d : Octet) : s.EndsKept ((s.deliver m d).getD s) := by
  cases pool : s.router.listens with
  | nil => rw [State.deliver_empty pool]; exact .refl s
  | cons l ls => rw [State.deliver_oldest pool]; exact .of_channels rfl

theorem State.matchReply_endsKept : s.EndsKept (s.matchReply m) := by
  unfold State.matchReply
  split
  · exact .refl s
  · exact .of_channels rfl

theorem State.routeMade_endsKept : s.EndsKept (s.routeMade m) := by
  unfold State.routeMade
  split
  · split
    · exact s.deliver_endsKept m _
    · exact s.deliver_endsKept m _
    · exact s.matchReply_endsKept m
    all_goals exact .refl s
  · split
    · exact s.enqueue_endsKept _ _
    · exact .refl s
  all_goals exact .refl s

theorem State.dropMessage_endsKept (o : OutcomeCode) : s.EndsKept (s.dropMessage m o) := by
  unfold State.dropMessage
  split
  · exact s.routeMade_endsKept _
  · exact .refl s

theorem State.report_endsKept (q : Queued) (o : OutcomeCode) (n : Nat) : s.EndsKept (s.report q o n) := by
  unfold State.report
  split
  · exact .of_channels rfl
  · split
    · exact .refl s
    · exact s.dropMessage_endsKept _ _
  · exact .refl s

end

/-! ### The report of a message transferred -/

/-- The requests after the report of a message of `n` bytes transferred. -/
def Queued.transferred (q : Queued) (n : Nat) (requests : List Request) : List Request :=
  match q.origin with
  | .send h => requests ++ [.retire h .done (BitVec.ofNat 8 n) [] false]
  | .router | .lineUnit => requests

theorem State.report_transferred (s : State) (q : Queued) (n : Nat) :
    s.report q .done n = { s with retire := q.transferred n s.retire } := by
  unfold Queued.transferred
  cases origin : q.origin with
  | send h => exact State.report_send origin
  | router => exact State.report_done origin
  | lineUnit => exact State.report_lineUnit origin

/-! ### What the channel presents to its line unit (07 R127, R141) -/

/-- The line unit with the slot 0 octet and the marks of its channel, and a status word write due where `changed`. -/
def LineUnit.presenting (l : LineUnit) (c : Channel) (changed : Bool) : LineUnit :=
  { l with statusDue := l.statusDue || changed, tx := { l.tx with slot0 := c.slot0, marks := c.marks } }

def State.presented (u : State) (p : Port) (changed : Bool) : State :=
  { u with lines := u.lines.set p (u.lines[p].presenting u.channels[p] changed) }

theorem State.latchMarks_eq (s : State) (p : Port) : s.latchMarks p = s.presented p false := by
  unfold State.presented LineUnit.presenting
  rw [Bool.or_false]
  rfl

theorem State.latchMarks_due (s : State) (p : Port) :
    (s.onLine p fun l => { l with statusDue := true }).latchMarks p = s.presented p true := by
  rw [State.latchMarks, State.onLine_onLine, State.presented, LineUnit.presenting, Bool.or_true]
  rfl

section
variable {x : State} {p : Port} {f : State → State}

theorem State.channelWork_same (sender : (f x).channels[p].sender = x.channels[p].sender)
    (receiver : (f x).channels[p].receiver = x.channels[p].receiver) : x.channelWork p f = (f x).presented p false := by
  rw [State.channelWork, if_pos ⟨sender, receiver⟩, State.latchMarks_eq]

theorem State.channelWork_changed
    (h : ¬ ((f x).channels[p].sender = x.channels[p].sender ∧ (f x).channels[p].receiver = x.channels[p].receiver)) :
    x.channelWork p f = (f x).presented p true := by
  rw [State.channelWork, if_neg h, State.latchMarks_due]

theorem State.channelWork_sender (receiver : (f x).channels[p].receiver = x.channels[p].receiver) :
    x.channelWork p f = (f x).presented p (decide ((f x).channels[p].sender ≠ x.channels[p].sender)) := by
  by_cases sender : (f x).channels[p].sender = x.channels[p].sender
  · rw [State.channelWork_same sender receiver, decide_eq_false (not_not.2 sender)]
  · rw [State.channelWork_changed fun h => sender h.1, decide_eq_true sender]

theorem State.channelWork_receiver (sender : (f x).channels[p].sender = x.channels[p].sender) :
    x.channelWork p f = (f x).presented p (decide ((f x).channels[p].receiver ≠ x.channels[p].receiver)) := by
  by_cases receiver : (f x).channels[p].receiver = x.channels[p].receiver
  · rw [State.channelWork_same sender receiver, decide_eq_false (not_not.2 receiver)]
  · rw [State.channelWork_changed fun h => receiver h.2, decide_eq_true receiver]

end

/-! ### A state whose channel `p` stands as `c` -/

/-- Channel `p` stands as `c`, with the requests and the bus given. -/
def State.channelled (s : State) (p : Port) (c : Channel) (retire : List Request) (b : Bus) : State :=
  { s with bus := b, channels := s.channels.set p c, retire := retire }

section
variable (s : State) (p : Port) (c : Channel) (r : List Request) (b : Bus)

theorem State.channelled_channel : (s.channelled p c r b).channels[p] = c := Vector.get_set_same _ _ _

theorem State.channelled_self : s.channelled p s.channels[p] s.retire s.bus = s := by
  unfold State.channelled
  rw [show s.channels.set p s.channels[p] = s.channels from Vector.set_getElem_self _]

theorem State.channelled_onChannel (f : Channel → Channel) :
    (s.channelled p c r b).onChannel p f = s.channelled p (f c) r b := by
  change { s with bus := b, channels := (s.channels.set p c).set p (f (s.channels.set p c)[p]), retire := r } = _
  rw [Vector.get_set_same, Vector.set_set]
  rfl

theorem State.channelled_transferred (q : Queued) (n : Nat) :
    (s.channelled p c r b).report q .done n = s.channelled p c (q.transferred n r) b := State.report_transferred _ q n

/-- The bus has no part in a report. -/
theorem State.channelled_report (q : Queued) (o : OutcomeCode) (n : Nat) :
    (s.channelled p c r b).report q o n = { (s.channelled p c r {}).report q o n with bus := b } := by
  have alike : (s.channelled p c r b).RoutesAlike (s.channelled p c r {}) := ⟨fun _ => rfl, rfl, rfl, rfl⟩
  obtain ⟨_, channels, router, retire⟩ := alike.report q o n
  have left := (s.channelled p c r b).report_only q o n
  have right := (s.channelled p c r {}).report_only q o n
  unfold State.OnlyRouting at left right
  rw [left, right, channels, router, retire]
  rfl

end

/-! ### What a command of the channel leaves -/

section
variable {s u : State} {p : Port}

theorem State.presented_line {changed : Bool} (lines : u.lines = s.lines) :
    (u.presented p changed).lines[p] = s.lines[p].presenting u.channels[p] changed := by
  rw [← lines]
  exact Vector.get_set_same _ _ _

theorem State.presented_others {changed : Bool} (lines : u.lines = s.lines) (q : Port) (other : q ≠ p) :
    (u.presented p changed).lines[q] = s.lines[q] := by
  rw [← lines]
  exact Vector.get_set_other _ _ other

theorem State.presented_due (lines : u.lines = s.lines) : (u.presented p true).lines[p] = { s.lines[p] with
    statusDue := true, tx := { s.lines[p].tx with slot0 := u.channels[p].slot0, marks := u.channels[p].marks } } := by
  rw [State.presented_line lines, LineUnit.presenting, Bool.or_true]

variable {i : Instr} {c' : Channel} {r : List Request} {b : Bus}

/-- What a command leaves that changes the channel, the requests and what is presented. -/
theorem exec_presented {changed : Bool} (h : exec i s = .next ((s.channelled p c' r b).presented p changed)) :
    ∃ t, exec i s = .next t ∧ t = { s with bus := t.bus, channels := s.channels.set p c', lines := t.lines, retire := r } ∧
      (∀ q : Port, q ≠ p → t.lines[q] = s.lines[q]) ∧
      t.lines[p] = { s.lines[p] with
        statusDue := t.lines[p].statusDue, tx := { s.lines[p].tx with slot0 := c'.slot0, marks := c'.marks } } ∧
      t.lines[p].statusDue = (s.lines[p].statusDue || changed) := by
  have line : ((s.channelled p c' r b).presented p changed).lines[p] = s.lines[p].presenting c' changed :=
    (State.presented_line (u := s.channelled p c' r b) rfl).trans
      (congrArg (s.lines[p].presenting · changed) (s.channelled_channel p c' r b))
  refine ⟨_, h, rfl, State.presented_others rfl, ?_, ?_⟩
  · rw [line]
    rfl
  · rw [line]
    rfl

end

end Sys2Proof.Machine
end

section
/-! PROOFS. The sender of a control channel (07 7.3). -/

namespace Sys2Proof.Machine

/-! ### A byte offered (07 R129) -/

theorem Message.offersLast (m : Message) (i : Nat) : (i == m.size - 1) = decide (i + 1 = m.size) := by
  rw [Bool.eq_iff_iff, beq_iff_eq, decide_eq_true_iff, Message.size]
  omega

/-- The channel that starts `q`, with `qs` behind it in the queue. -/
def Channel.starting (c : Channel) (q : Queued) (qs : List Queued) (peerTake : Bool) : Channel :=
  { c with queue := qs, sender := .offering, inFlight := some { item := q, index := 0 }, offer := !peerTake,
           last := false, quit := false, takeTimer := some 0 }

section
variable {c : Channel} {m : PeerMarks} {q : Queued} {qs : List Queued}

theorem Channel.startNext_starts (idle : c.sender = .idle) (queue : c.queue = q :: qs) (ready : m.ready = true)
    (halt : m.halt = false) : c.startNext m = c.starting q qs m.take := by
  have first : (0 == q.msg.size - 1) = false := by
    rw [Message.offersLast, decide_eq_false_iff_not, Message.size]
    omega
  rw [Channel.startNext, if_pos ⟨idle, ready, by rw [halt]; exact Bool.false_ne_true⟩, queue]
  dsimp only
  rw [Channel.offerByte, first]
  rfl

theorem Channel.startNext_rests (h : c.queue = [] ∨ m.ready = false ∨ m.halt = true) : c.startNext m = c := by
  rw [Channel.startNext]
  split
  · next start =>
    obtain ⟨_, ready, halt⟩ := start
    rcases h with queue | unready | halts
    · rw [queue]
    · rw [unready] at ready; cases ready
    · exact absurd halts halt
  · rfl

theorem Channel.offerByte_next (offering : c.sender = .offering) (f : InFlight) :
    c.offerByte f.item (f.index + 1) c.offer = { c with
      inFlight := some { f with index := f.index + 1 }, offer := !c.offer
      last := decide (f.index + 2 = f.item.msg.size), quit := false, takeTimer := some 0 } := by
  rw [Channel.offerByte, Message.offersLast, ← offering]

end

/-! ### The sender's step -/

section
variable (s : State) (p : Port) (r : List Request) (b : Bus) {c : Channel}

theorem State.senderStep_idle (idle : c.sender = .idle) :
    (s.channelled p c r b).senderStep p = s.channelled p (c.startNext (s.peer p)) r b := by
  have stands : (s.channelled p c r b).channels[p].sender = .idle := by rw [State.channelled_channel]; exact idle
  unfold State.senderStep
  dsimp only
  rw [stands]
  exact s.channelled_onChannel p c r b _

theorem State.senderStep_quitting (quitting : c.sender = .quitting) :
    (s.channelled p c r b).senderStep p = s.channelled p c r b := by
  have stands : (s.channelled p c r b).channels[p].sender = .quitting := by rw [State.channelled_channel]; exact quitting
  unfold State.senderStep
  dsimp only
  rw [stands]

theorem State.senderStep_unready (ready : (s.peer p).ready = false) (offering : c.sender = .offering) :
    (s.channelled p c r b).senderStep p = s.channelled p c r b := by
  have stands : (s.channelled p c r b).channels[p].sender = .offering := by rw [State.channelled_channel]; exact offering
  have marks : ((s.channelled p c r b).peer p).ready = false := ready
  unfold State.senderStep
  dsimp only
  rw [stands]
  split
  · next h => cases h
  · rw [marks]
    rfl
  all_goals rfl

variable {f : InFlight} (offering : c.sender = .offering) (inFlight : c.inFlight = some f) (ready : (s.peer p).ready = true)
include offering inFlight ready

theorem State.senderStep_offering : (s.channelled p c r b).senderStep p =
    if (s.peer p).halt then (s.channelled p { c.senderIdle with offer := (s.peer p).take } r b).report f.item .peerHalt f.index
    else if (s.peer p).take = c.offer then
      if f.index + 1 < f.item.msg.size then s.channelled p (c.offerByte f.item (f.index + 1) (s.peer p).take) r b
      else s.channelled p (c.senderIdle.startNext (s.peer p)) (f.item.transferred f.item.msg.size r) b
    else s.channelled p c r b := by
  have marks : (s.channelled p c r b).peer p = s.peer p := rfl
  unfold State.senderStep
  dsimp only
  rw [State.channelled_channel, marks, offering, inFlight, ready]
  simp only [State.channelled_onChannel, State.channelled_transferred]
  rfl

end

/-! ### The commands -/

section
variable (s : State) (p : Port) (hp : s.regs.poreset = false)
include hp

theorem exec_senderWork (runs : s.lines[p].line.runs = true) (due : s.channels[p].senderDue = true) :
    exec (.frameBoundary false [.sender p] []) s =
      .next (((s.channelled p { s.channels[p] with senderDue := false } s.retire {}).channelWork p fun s => s.senderStep p).setBus {}) := by
  have works : (s.setBus {}).senderWork p =
      (s.channelled p { s.channels[p] with senderDue := false } s.retire {}).channelWork p fun s => s.senderStep p := by
    rw [State.senderWork, if_pos (by exact due)]
    exact if_pos (by exact runs)
  rw [exec_doWork s _ hp, State.doWork, works]

theorem exec_takeTimeout : exec (.takeTimeout p) s = .next (s.takeTimeout p) := whileReleased_next s (fun s => s.takeTimeout p) hp

theorem exec_quitTimerExpiry : exec (.quitTimerExpiry p) s = .next (s.quitTimerExpiry p) :=
  whileReleased_next s (fun s => s.quitTimerExpiry p) hp

end

end Sys2Proof.Machine
end

section
/-! PROOFS. What the sender of a control channel does at a boundary and at its timers (07 7.3). -/

namespace Sys2Proof.Machine

section
variable {s : State} {p : Port} {c c' : Channel} {r r' : List Request} {b : Bus} {f : State → State}

/-- Work of the sender that leaves the channel `c'`. -/
theorem State.senderLeaves (step : f (s.channelled p c r b) = s.channelled p c' r' b) (receiver : c'.receiver = c.receiver) :
    (s.channelled p c r b).channelWork p f = (s.channelled p c' r' b).presented p (decide (c'.sender ≠ c.sender)) := by
  have before := s.channelled_channel p c r b
  have after := s.channelled_channel p c' r' b
  have kept : (f (s.channelled p c r b)).channels[p].receiver = (s.channelled p c r b).channels[p].receiver := by
    rw [step, before, after, receiver]
  rw [State.channelWork_sender kept, step, before, after]

/-- Work of the sender that drops its message. -/
theorem State.senderReports {q : Queued} {o : OutcomeCode} {n : Nat}
    (step : f (s.channelled p c r b) = (s.channelled p c' r b).report q o n) (sender : c'.sender ≠ c.sender) :
    (s.channelled p c r b).channelWork p f = ((s.channelled p c' r b).report q o n).presented p true := by
  refine (State.channelWork_changed fun same => sender ?_).trans (congrArg (State.presented · p true) step)
  have kept := ((s.channelled p c' r b).report_endsKept q o n p).1
  rw [← step, same.1, State.channelled_channel, State.channelled_channel] at kept
  exact kept.symm

/-- The lines stand as they did where a message has been reported. -/
theorem State.reported_lines (s : State) (p : Port) (c : Channel) (r : List Request) (b : Bus) (q : Queued) (o : OutcomeCode) (n : Nat) :
    ({ (s.channelled p c r {}).report q o n with bus := b } : State).lines = s.lines := by
  have only := (s.channelled p c r {}).report_only q o n
  unfold State.OnlyRouting at only
  rw [only]
  rfl

/-- What a command leaves that drops the message in transmission. -/
theorem exec_reported {i : Instr} {q : Queued} {o : OutcomeCode} {n : Nat}
    (h : exec i s = .next (({ (s.channelled p c s.retire {}).report q o n with bus := b } : State).presented p true)) :
    ∃ t, exec i s = .next t ∧
      (let u := ({ s with bus := {}, channels := s.channels.set p c } : State).report q o n
       t = { u with lines := t.lines, bus := t.bus }) ∧
      (∀ q : Port, q ≠ p → t.lines[q] = s.lines[q]) ∧
      t.lines[p] = { s.lines[p] with
        statusDue := true, tx := { s.lines[p].tx with slot0 := t.channels[p].slot0, marks := t.channels[p].marks } } :=
  ⟨_, h, rfl, State.presented_others (s.reported_lines p c s.retire b q o n),
    State.presented_due (s.reported_lines p c s.retire b q o n)⟩

end

section
variable {s : State} {p : Port} (hp : s.regs.poreset = false) (runs : s.lines[p].line.runs = true)
  (due : s.channels[p].senderDue = true) {c' : Channel} {r : List Request}
include hp runs due

theorem exec_senderLeaves (step : (s.channelled p { s.channels[p] with senderDue := false } s.retire {}).senderStep p =
      s.channelled p c' r {}) (receiver : c'.receiver = s.channels[p].receiver) :
    exec (.frameBoundary false [.sender p] []) s =
      .next ((s.channelled p c' r {}).presented p (decide (c'.sender ≠ s.channels[p].sender))) := by
  rw [exec_senderWork s p hp runs due, State.senderLeaves step (by exact receiver)]
  rfl

theorem exec_senderReports {q : Queued} {o : OutcomeCode} {n : Nat}
    (step : (s.channelled p { s.channels[p] with senderDue := false } s.retire {}).senderStep p =
      (s.channelled p c' s.retire {}).report q o n) (sender : c'.sender ≠ s.channels[p].sender) :
    exec (.frameBoundary false [.sender p] []) s =
      .next (({ (s.channelled p c' s.retire {}).report q o n with bus := {} } : State).presented p true) := by
  rw [exec_senderWork s p hp runs due, State.senderReports step (by exact sender)]
  rfl

end

section
variable {s : State} {p : Port} {n : Nat}

theorem State.takeTimeout_due {f : InFlight} (offering : s.channels[p].sender = .offering) (inFlight : s.channels[p].inFlight = some f)
    (timer : s.channels[p].takeTimer = some n) (late : 64 ≤ n) :
    s.takeTimeout p = s.channelWork p fun s => (s.onChannel p fun c => { c with
      sender := .quitting, inFlight := none, last := false, quit := true, takeTimer := none, quitTimer := some 0 }).report
        f.item .takeTimeout f.index := by
  unfold State.takeTimeout
  dsimp only
  rw [inFlight]
  exact if_pos ⟨offering, (expired_some timer).2 late⟩

theorem State.takeTimeout_early (timer : s.channels[p].takeTimer = some n) (early : n < 64) : s.takeTimeout p = s := by
  unfold State.takeTimeout
  dsimp only
  split
  · exact if_neg fun h => Nat.not_le.2 early ((expired_some timer).1 h.2)
  · rfl

theorem State.quitTimerExpiry_due (quitting : s.channels[p].sender = .quitting) (timer : s.channels[p].quitTimer = some n)
    (late : 2 ≤ n) :
    s.quitTimerExpiry p = s.channelWork p fun t => t.onChannel p fun c => c.senderIdle.startNext (t.peer p) :=
  if_pos ⟨quitting, (expired_some timer).2 late⟩

theorem State.quitTimerExpiry_early (timer : s.channels[p].quitTimer = some n) (early : n < 2) : s.quitTimerExpiry p = s :=
  if_neg fun h => Nat.not_le.2 early ((expired_some timer).1 h.2)

theorem exec_takeTimeout_due {f : InFlight} (hp : s.regs.poreset = false) (offering : s.channels[p].sender = .offering)
    (inFlight : s.channels[p].inFlight = some f) (timer : s.channels[p].takeTimer = some n) (late : 64 ≤ n) :
    exec (.takeTimeout p) s = .next (({ (s.channelled p { s.channels[p] with
        sender := .quitting, inFlight := none, last := false, quit := true, takeTimer := none, quitTimer := some 0 }
      s.retire {}).report f.item .takeTimeout f.index with bus := s.bus } : State).presented p true) := by
  rw [exec_takeTimeout s p hp, State.takeTimeout_due offering inFlight timer late, ← State.channelled_report]
  refine congrArg _ ((congrArg (State.channelWork · p _) (s.channelled_self p).symm).trans (State.senderReports ?_ ?_))
  · rw [State.channelled_onChannel]
  · rw [offering]
    exact SenderState.noConfusion

theorem exec_quitTimerExpiry_due {c' : Channel} (hp : s.regs.poreset = false) (quitting : s.channels[p].sender = .quitting)
    (timer : s.channels[p].quitTimer = some n) (late : 2 ≤ n) (next : s.channels[p].senderIdle.startNext (s.peer p) = c')
    (receiver : c'.receiver = s.channels[p].receiver) :
    exec (.quitTimerExpiry p) s = .next ((s.channelled p c' s.retire s.bus).presented p
      (decide (c'.sender ≠ s.channels[p].sender))) := by
  rw [exec_quitTimerExpiry s p hp, State.quitTimerExpiry_due quitting timer late]
  refine congrArg _ ((congrArg (State.channelWork · p _) (s.channelled_self p).symm).trans (State.senderLeaves ?_ receiver))
  rw [State.channelled_onChannel, ← next]
  rfl

end

/-- Settles O53. -/
theorem channelSends : Obligations.ChannelSends := by
  refine ⟨fun m => ⟨-(byteSum m.body), rfl, m.bytes_sum, m.size_eq, messageOf_bytes m⟩, byteSum_toNat,
    fun f => ⟨peerCode_iff _, rfl, rfl, rfl, rfl, rfl, rfl⟩, fun c => ?_, fun s q o n => ?_, fun s p hp => ?_⟩
  · obtain ⟨offer, last, quit, take, halt⟩ := c.marks_bits
    exact ⟨offer, last, quit, take, halt, Channel.slot0_idle, fun f offering => Channel.slot0_offering offering⟩
  · refine ⟨fun h => State.report_send, fun origin failed kind => ?_, fun origin rests => ?_, State.report_lineUnit⟩
    · exact (State.report_dropped origin failed).trans (State.dropMessage_data kind _)
    · by_cases done : o = .done
      · rw [done]
        exact State.report_done origin
      · exact (State.report_dropped origin done).trans (State.dropMessage_other (rests.resolve_left done) _)
  refine ⟨fun runs due => ⟨fun q qs idle queue ready halt => ?_, fun idle rests => ?_, fun offering unready => ?_, fun quitting => ?_,
      fun f offering inFlight ready => ?_⟩,
    fun f n offering inFlight timer late => exec_reported (exec_takeTimeout_due hp offering inFlight timer late),
    fun n timer early => (exec_takeTimeout s p hp).trans (congrArg _ (State.takeTimeout_early timer early)),
    fun n quitting timer late => ⟨fun rests => ?_, fun q qs queue ready halt => ?_⟩,
    fun n timer early => (exec_quitTimerExpiry s p hp).trans (congrArg _ (State.quitTimerExpiry_early timer early))⟩
  · refine exec_presented (exec_senderLeaves hp runs due ?_ rfl)
    exact (s.senderStep_idle p _ _ (by exact idle)).trans
      (congrArg (s.channelled p · s.retire {}) (Channel.startNext_starts (by exact idle) (by exact queue) ready halt))
  · refine exec_presented (exec_senderLeaves hp runs due ?_ rfl)
    exact (s.senderStep_idle p _ _ (by exact idle)).trans
      (congrArg (s.channelled p · s.retire {}) (Channel.startNext_rests (by exact rests)))
  · exact exec_presented (exec_senderLeaves hp runs due (s.senderStep_unready p _ _ unready (by exact offering)) rfl)
  · exact exec_presented (exec_senderLeaves hp runs due (s.senderStep_quitting p _ _ (by exact quitting)) rfl)
  · have step := s.senderStep_offering p s.retire {} (c := { s.channels[p] with senderDue := false }) (by exact offering)
      (by exact inFlight) ready
    refine ⟨fun halt still => ?_, fun halt taken more => ?_, fun halt taken final => ⟨fun empty => ?_, fun q qs queue => ?_⟩,
      fun halt => ?_⟩
    · refine exec_presented (exec_senderLeaves hp runs due ?_ rfl)
      rw [step, if_neg (by rw [halt]; exact Bool.false_ne_true)]
      exact if_neg still
    · refine exec_presented (exec_senderLeaves hp runs due ?_ rfl)
      rw [step, if_neg (by rw [halt]; exact Bool.false_ne_true), if_pos (by exact taken), if_pos more, taken]
      exact congrArg (s.channelled p · s.retire {}) (Channel.offerByte_next (by exact offering) f)
    · refine exec_presented (exec_senderLeaves hp runs due ?_ rfl)
      rw [step, if_neg (by rw [halt]; exact Bool.false_ne_true), if_pos (by exact taken), if_neg (by omega)]
      rw [Channel.startNext_rests (.inl (by exact empty))]
      rfl
    · refine exec_presented (exec_senderLeaves hp runs due ?_ rfl)
      rw [step, if_neg (by rw [halt]; exact Bool.false_ne_true), if_pos (by exact taken), if_neg (by omega)]
      rw [Channel.startNext_starts (by rfl) (by exact queue) ready halt]
      rfl
    · refine exec_reported (exec_senderReports hp runs due (step.trans (if_pos halt)) ?_)
      rw [offering]
      exact SenderState.noConfusion
  · exact exec_presented (exec_quitTimerExpiry_due hp quitting timer late (Channel.startNext_rests rests) rfl)
  · exact exec_presented (exec_quitTimerExpiry_due hp quitting timer late (Channel.startNext_starts rfl queue ready halt) rfl)

end Sys2Proof.Machine
end

section
/-! PROOFS. The receiver of a control channel (07 7.4). -/

namespace Sys2Proof.Machine

/-! ### What routing leaves of the channels and the lines -/

theorem State.routeInbound_endsKept (s : State) (p : Port) (m : Message) : s.EndsKept (s.routeInbound p m).2 := by
  have delivered : s.EndsKept (match s.deliver m (octet p.val) with
      | some t => (none, t)
      | none => ((some .pool, s) : Option WaitFor × State)).2 := by
    have kept := s.deliver_endsKept m (octet p.val)
    cases h : s.deliver m (octet p.val) with
    | none => exact .refl s
    | some t => rw [h] at kept; exact kept
  unfold State.routeInbound
  split
  · split
    · exact delivered
    · exact delivered
    · exact s.routeMade_endsKept _
    · exact s.matchReply_endsKept m
    · exact .refl s
  · exact s.dropMessage_endsKept m _
  · exact s.dropMessage_endsKept m _
  · split
    · exact s.dropMessage_endsKept m _
    · split
      · exact s.enqueue_endsKept _ _
      · exact .refl s

theorem State.handToRouter_endsKept (s : State) (p : Port) (m : Message) : s.EndsKept (s.handToRouter p m) := by
  have routed := s.routeInbound_endsKept p m
  cases h : s.routeInbound p m with
  | mk waits t =>
    rw [h] at routed
    cases waits with
    | none => rw [State.handToRouter_empties h]; exact routed.trans (t.onChannel_endsKept p _ rfl rfl)
    | some on => rw [State.handToRouter_waits h]; exact routed

/-! ### The receiver's step (07 R135 to R137) -/

/-- What a receiver in RECEIVING does with a byte of each verdict. -/
def State.judged (s : State) (p : Port) (m : PeerMarks) : Verdict → State
  | .reject => s.onChannel p Channel.enterHalting
  | .accept => s.onChannel p fun c => c.takeByte m
  | .complete => s.completeMessage p m

/-- The byte offered is taken and the message is at its end. -/
def Channel.ended (c : Channel) (offer : Bool) : Channel :=
  { c with take := offer, partialMsg := [], stallTimer := none, receiver := .idle }

section
variable (s : State) (p : Port) (r : List Request) (b : Bus) {c : Channel}

theorem State.receiverStep_unready (ready : (s.peer p).ready = false) :
    (s.channelled p c r b).receiverStep p = s.channelled p c r b := by
  have marks : (s.channelled p c r b).peer p = s.peer p := rfl
  unfold State.receiverStep
  dsimp only
  rw [marks, ready]
  rfl

variable (ready : (s.peer p).ready = true)
include ready

theorem State.receiverStep_quit (quit : (s.peer p).quit = true) : (s.channelled p c r b).receiverStep p = s.channelled p
    (if c.receiver = .receiving then c.ended (s.peer p).offer else { c with take := (s.peer p).offer }) r b := by
  have marks : (s.channelled p c r b).peer p = s.peer p := rfl
  unfold State.receiverStep
  dsimp only
  rw [marks, ready, quit]
  exact s.channelled_onChannel p c r b _

variable (quit : (s.peer p).quit = false)
include quit

theorem State.receiverStep_still (still : (s.peer p).offer = c.take) :
    (s.channelled p c r b).receiverStep p = s.channelled p c r b := by
  have marks : (s.channelled p c r b).peer p = s.peer p := rfl
  unfold State.receiverStep
  dsimp only
  rw [State.channelled_channel, marks, ready, quit]
  exact if_pos still

variable (offered : (s.peer p).offer ≠ c.take)
include offered

theorem State.receiverStep_halting (halting : c.receiver = .halting) :
    (s.channelled p c r b).receiverStep p = s.channelled p c r b := by
  have marks : (s.channelled p c r b).peer p = s.peer p := rfl
  unfold State.receiverStep
  dsimp only
  rw [State.channelled_channel, marks, ready, quit, halting]
  exact if_neg offered

theorem State.receiverStep_idle (idle : c.receiver = .idle) : (s.channelled p c r b).receiverStep p =
    if c.holding.isSome then s.channelled p c r b
    else if (s.peer p).last then s.channelled p c.enterHalting r b
    else s.channelled p ({ c with partialMsg := [] }.takeByte (s.peer p)) r b := by
  have marks : (s.channelled p c r b).peer p = s.peer p := rfl
  unfold State.receiverStep
  dsimp only
  rw [State.channelled_channel, marks, ready, quit, idle]
  simp only [State.channelled_onChannel]
  exact if_neg offered

theorem State.receiverStep_receiving (receiving : c.receiver = .receiving) : (s.channelled p c r b).receiverStep p =
    (s.channelled p c r b).judged p (s.peer p)
      (judgeByte (s.lines[p].line == .ready) c.partialMsg (s.peer p).byte (s.peer p).last) := by
  have marks : (s.channelled p c r b).peer p = s.peer p := rfl
  have line : (s.channelled p c r b).lines[p].line = s.lines[p].line := rfl
  unfold State.receiverStep
  dsimp only
  rw [State.channelled_channel, marks, ready, quit, receiving, line]
  exact if_neg offered

end

section
variable (s : State) (p : Port) (r : List Request) (b : Bus) {c : Channel} {m : PeerMarks} {g : Message}
  (message : messageOf (c.partialMsg ++ [m.byte]) = some g)
include message

theorem State.completeMessage_identify (kind : g.kind = .identify) : (s.channelled p c r b).completeMessage p m =
    s.channelled p { c.ended m.offer with holding := some g } r b := by
  unfold State.completeMessage
  dsimp only
  rw [State.channelled_channel, message, State.channelled_onChannel]
  exact if_pos kind

theorem State.completeMessage_routed (kind : g.kind ≠ .identify) : (s.channelled p c r b).completeMessage p m =
    (s.channelled p { c.ended m.offer with holding := some g } r b).handToRouter p g := by
  unfold State.completeMessage
  dsimp only
  rw [State.channelled_channel, message, State.channelled_onChannel]
  exact if_neg kind

end

/-! ### The commands -/

section
variable (s : State) (p : Port) (hp : s.regs.poreset = false)
include hp

theorem exec_receiverWork (runs : s.lines[p].line.runs = true) (due : s.channels[p].receiverDue = true) :
    exec (.frameBoundary false [.receiver p] []) s =
      .next (((s.channelled p { s.channels[p] with receiverDue := false } s.retire {}).channelWork
        p fun s => s.receiverStep p).setBus {}) := by
  have works : (s.setBus {}).receiverWork p =
      (s.channelled p { s.channels[p] with receiverDue := false } s.retire {}).channelWork p fun s => s.receiverStep p := by
    rw [State.receiverWork, if_pos (by exact due)]
    exact if_pos (by exact runs)
  rw [exec_doWork s _ hp, State.doWork, works]

theorem exec_stallTimerExpiry : exec (.stallTimerExpiry p) s = .next (s.stallTimerExpiry p) :=
  whileReleased_next s (fun s => s.stallTimerExpiry p) hp

theorem exec_haltTimerExpiry : exec (.haltTimerExpiry p) s = .next (s.haltTimerExpiry p) :=
  whileReleased_next s (fun s => s.haltTimerExpiry p) hp

end

section
variable {s : State} {p : Port} {c c' : Channel} {r r' : List Request} {b : Bus} {f : State → State}

/-- Work of the receiver that leaves the channel `c'`. -/
theorem State.receiverLeaves (step : f (s.channelled p c r b) = s.channelled p c' r' b) (sender : c'.sender = c.sender) :
    (s.channelled p c r b).channelWork p f = (s.channelled p c' r' b).presented p (decide (c'.receiver ≠ c.receiver)) := by
  have before := s.channelled_channel p c r b
  have after := s.channelled_channel p c' r' b
  have kept : (f (s.channelled p c r b)).channels[p].sender = (s.channelled p c r b).channels[p].sender := by
    rw [step, before, after, sender]
  rw [State.channelWork_receiver kept, step, before, after]

/-- Work of the receiver that hands a complete message to the router. -/
theorem State.receiverRoutes {g : Message} (step : f (s.channelled p c r b) = (s.channelled p c' r b).handToRouter p g)
    (receiver : c'.receiver ≠ c.receiver) :
    (s.channelled p c r b).channelWork p f = ((s.channelled p c' r b).handToRouter p g).presented p true := by
  refine (State.channelWork_changed fun same => receiver ?_).trans (congrArg (State.presented · p true) step)
  have kept := ((s.channelled p c' r b).handToRouter_endsKept p g p).2
  rw [← step, same.2, State.channelled_channel, State.channelled_channel] at kept
  exact kept.symm

theorem State.handed_lines (s : State) (p : Port) (c : Channel) (r : List Request) (b : Bus) (g : Message) :
    ((s.channelled p c r b).handToRouter p g).lines = s.lines := by
  have only := (s.channelled p c r b).handToRouter_only p g
  unfold State.OnlyRouting at only
  rw [only]
  rfl

theorem State.handed_bus (s : State) (p : Port) (c : Channel) (r : List Request) (b : Bus) (g : Message) :
    ((s.channelled p c r b).handToRouter p g).bus = b := by
  have only := (s.channelled p c r b).handToRouter_only p g
  unfold State.OnlyRouting at only
  rw [only]
  rfl

end

section
variable {s : State} {p : Port} (hp : s.regs.poreset = false) (runs : s.lines[p].line.runs = true)
  (due : s.channels[p].receiverDue = true) {c' : Channel}
include hp runs due

theorem exec_receiverLeaves (step : (s.channelled p { s.channels[p] with receiverDue := false } s.retire {}).receiverStep p =
      s.channelled p c' s.retire {}) (sender : c'.sender = s.channels[p].sender) :
    exec (.frameBoundary false [.receiver p] []) s =
      .next ((s.channelled p c' s.retire {}).presented p (decide (c'.receiver ≠ s.channels[p].receiver))) := by
  rw [exec_receiverWork s p hp runs due, State.receiverLeaves step (by exact sender)]
  rfl

theorem exec_receiverRoutes {g : Message}
    (step : (s.channelled p { s.channels[p] with receiverDue := false } s.retire {}).receiverStep p =
      (s.channelled p c' s.retire {}).handToRouter p g) (receiver : c'.receiver ≠ s.channels[p].receiver) :
    exec (.frameBoundary false [.receiver p] []) s =
      .next (((s.channelled p c' s.retire {}).handToRouter p g).presented p true) := by
  have bus := s.handed_bus p c' s.retire {} g
  rw [exec_receiverWork s p hp runs due, State.receiverRoutes step (by exact receiver)]
  generalize (s.channelled p c' s.retire {}).handToRouter p g = u at bus
  obtain ⟨⟩ := u
  cases bus
  rfl

end

end Sys2Proof.Machine
end

section
/-! PROOFS. What the receiver of a control channel does at a boundary and at its timers (07 7.4). -/

namespace Sys2Proof.Machine

theorem Channel.takeByte_receiving {c : Channel} (receiving : c.receiver = .receiving) (m : PeerMarks) : c.takeByte m = { c with
    take := m.offer, partialMsg := c.partialMsg ++ [m.byte], stallTimer := some 0 } := by
  rw [Channel.takeByte, ← receiving]

section
variable (s : State) (p : Port) (r : List Request) (b : Bus) {c : Channel} (ready : (s.peer p).ready = true)
include ready

theorem State.receiverStep_quitReceiving (quit : (s.peer p).quit = true) (receiving : c.receiver = .receiving) :
    (s.channelled p c r b).receiverStep p = s.channelled p (c.ended (s.peer p).offer) r b :=
  (s.receiverStep_quit p r b ready quit).trans (congrArg (s.channelled p · r b) (if_pos receiving))

theorem State.receiverStep_quitOther (quit : (s.peer p).quit = true) (other : c.receiver ≠ .receiving) :
    (s.channelled p c r b).receiverStep p = s.channelled p { c with take := (s.peer p).offer } r b :=
  (s.receiverStep_quit p r b ready quit).trans (congrArg (s.channelled p · r b) (if_neg other))

variable (quit : (s.peer p).quit = false) (offered : (s.peer p).offer ≠ c.take)
include quit offered

section
variable (idle : c.receiver = .idle)
include idle

theorem State.receiverStep_held {g : Message} (held : c.holding = some g) :
    (s.channelled p c r b).receiverStep p = s.channelled p c r b :=
  (s.receiverStep_idle p r b ready quit offered idle).trans (if_pos (Option.isSome_iff_exists.2 ⟨g, held⟩))

variable (free : c.holding = none)
include free

theorem State.receiverStep_free : (s.channelled p c r b).receiverStep p =
    if (s.peer p).last then s.channelled p c.enterHalting r b
    else s.channelled p ({ c with partialMsg := [] }.takeByte (s.peer p)) r b :=
  (s.receiverStep_idle p r b ready quit offered idle).trans (if_neg (by rw [free]; exact Bool.false_ne_true))

theorem State.receiverStep_firstLast (last : (s.peer p).last = true) :
    (s.channelled p c r b).receiverStep p = s.channelled p c.enterHalting r b :=
  (s.receiverStep_free p r b ready quit offered idle free).trans (if_pos last)

theorem State.receiverStep_first (more : (s.peer p).last = false) : (s.channelled p c r b).receiverStep p = s.channelled p { c with
    take := (s.peer p).offer, partialMsg := [(s.peer p).byte], stallTimer := some 0, receiver := .receiving } r b :=
  (s.receiverStep_free p r b ready quit offered idle free).trans (if_neg (by rw [more]; exact Bool.false_ne_true))

end

section
variable (receiving : c.receiver = .receiving) {v : Verdict}
  (verdict : judgeByte (s.lines[p].line == .ready) c.partialMsg (s.peer p).byte (s.peer p).last = v)
include receiving verdict

theorem State.receiverStep_judged :
    (s.channelled p c r b).receiverStep p = (s.channelled p c r b).judged p (s.peer p) v :=
  (s.receiverStep_receiving p r b ready quit offered receiving).trans (congrArg _ verdict)

theorem State.receiverStep_reject (reject : v = .reject) :
    (s.channelled p c r b).receiverStep p = s.channelled p c.enterHalting r b := by
  rw [s.receiverStep_judged p r b ready quit offered receiving verdict, reject]
  exact s.channelled_onChannel p c r b _

theorem State.receiverStep_accept (accept : v = .accept) : (s.channelled p c r b).receiverStep p = s.channelled p { c with
    take := (s.peer p).offer, partialMsg := c.partialMsg ++ [(s.peer p).byte], stallTimer := some 0 } r b := by
  rw [s.receiverStep_judged p r b ready quit offered receiving verdict, accept, ← Channel.takeByte_receiving receiving]
  exact s.channelled_onChannel p c r b _

theorem State.receiverStep_complete (complete : v = .complete) :
    (s.channelled p c r b).receiverStep p = (s.channelled p c r b).completeMessage p (s.peer p) := by
  rw [s.receiverStep_judged p r b ready quit offered receiving verdict, complete]
  rfl

end

end

/-- The channel whose receiver has left HALTING. -/
def Channel.freed (c : Channel) : Channel := { c with receiver := .idle, halt := false, haltTimer := none }

section
variable {s : State} {p : Port} {n : Nat}

theorem State.stallTimerExpiry_early (timer : s.channels[p].stallTimer = some n) (early : n < 64) : s.stallTimerExpiry p = s :=
  if_neg fun h => Nat.not_le.2 early ((expired_some timer).1 h.2)

theorem State.haltTimerExpiry_early (timer : s.channels[p].haltTimer = some n) (early : n < 2) : s.haltTimerExpiry p = s :=
  if_neg fun h => Nat.not_le.2 early ((expired_some timer).1 h.2)

variable (hp : s.regs.poreset = false)
include hp

theorem exec_stallTimerExpiry_due (receiving : s.channels[p].receiver = .receiving) (timer : s.channels[p].stallTimer = some n)
    (late : 64 ≤ n) : exec (.stallTimerExpiry p) s =
      .next ((s.channelled p s.channels[p].enterHalting s.retire s.bus).presented p
        (decide (s.channels[p].enterHalting.receiver ≠ s.channels[p].receiver))) := by
  have due : s.stallTimerExpiry p = s.channelWork p fun t => t.onChannel p Channel.enterHalting :=
    if_pos ⟨receiving, (expired_some timer).2 late⟩
  rw [exec_stallTimerExpiry s p hp, due]
  refine congrArg _ ((congrArg (State.channelWork · p _) (s.channelled_self p).symm).trans (State.receiverLeaves ?_ rfl))
  rw [State.channelled_onChannel]

theorem exec_haltTimerExpiry_due {c' : Channel} (halting : s.channels[p].receiver = .halting)
    (timer : s.channels[p].haltTimer = some n) (late : 2 ≤ n)
    (step : (s.channelled p s.channels[p].freed s.retire s.bus).receiverStep p = s.channelled p c' s.retire s.bus)
    (sender : c'.sender = s.channels[p].sender) : exec (.haltTimerExpiry p) s =
      .next ((s.channelled p c' s.retire s.bus).presented p (decide (c'.receiver ≠ s.channels[p].receiver))) := by
  have due : s.haltTimerExpiry p = s.channelWork p fun t => (t.onChannel p Channel.freed).receiverStep p :=
    if_pos ⟨halting, (expired_some timer).2 late⟩
  rw [exec_haltTimerExpiry s p hp, due]
  refine congrArg _ ((congrArg (State.channelWork · p _) (s.channelled_self p).symm).trans (State.receiverLeaves ?_ sender))
  rw [State.channelled_onChannel]
  exact step

end

/-- What a command leaves that hands a complete message to the router. -/
theorem exec_handed {s : State} {p : Port} {i : Instr} {c' : Channel} {g : Message}
    (h : exec i s = .next (((s.channelled p c' s.retire {}).handToRouter p g).presented p true)) : ∃ t, exec i s = .next t ∧
      (let u := ({ s with bus := {}, channels := s.channels.set p c' } : State).handToRouter p g
       t = { u with lines := t.lines }) ∧
      (∀ q : Port, q ≠ p → t.lines[q] = s.lines[q]) ∧
      t.lines[p] = { s.lines[p] with
        statusDue := true, tx := { s.lines[p].tx with slot0 := t.channels[p].slot0, marks := t.channels[p].marks } } :=
  ⟨_, h, rfl, State.presented_others (s.handed_lines p c' s.retire {} g), State.presented_due (s.handed_lines p c' s.retire {} g)⟩

/-- A DATA for this node fills the oldest LISTEN and leaves the holding. -/
theorem State.handToRouter_delivered {s : State} {p : Port} {c : Channel} {r : List Request} {b : Bus} {g : Message} {l : Held}
    {ls : List Held} (kind : g.kind = .data) (home : g.dest = s.router.node) (pool : s.router.listens = l :: ls) :
    ((s.channelled p c r b).handToRouter p g).channels[p] = { c with holding := none } ∧
    ((s.channelled p c r b).handToRouter p g).router.listens = ls ∧
    ((s.channelled p c r b).handToRouter p g).retire = r ++ [.retire l .done (BitVec.ofNat 8 p.val) (deliveryResults g) false] := by
  have route : (s.channelled p c r b).route g.dest = .atHome := State.route_home home
  rw [State.handToRouter_empties (State.routeInbound_delivered route (.inl kind) (by exact pool))]
  refine ⟨?_, rfl, rfl⟩
  refine (Vector.get_set_same _ _ _).trans ?_
  exact congrArg (fun c : Channel => { c with holding := none }) (s.channelled_channel p c r b)

/-- Settles O54. -/
theorem channelReceives : Obligations.ChannelReceives := by
  refine ⟨judgeByte_cases, fun l g => messageOf_some, fun l => messageOf_defined, fun s p hp => ?_⟩
  refine ⟨fun runs due => ⟨fun unready => ?_, fun ready quit other => ?_, fun ready quit receiving => ?_, fun ready quit still => ?_,
      fun ready quit offered halting => ?_, fun ready quit offered idle => ?_, fun ready quit offered receiving => ?_⟩,
    fun n receiving timer late => exec_presented (exec_stallTimerExpiry_due hp receiving timer late),
    fun n timer early => (exec_stallTimerExpiry s p hp).trans (congrArg _ (State.stallTimerExpiry_early timer early)),
    fun n halting timer late => ?_,
    fun n timer early => (exec_haltTimerExpiry s p hp).trans (congrArg _ (State.haltTimerExpiry_early timer early))⟩
  · exact exec_presented (exec_receiverLeaves hp runs due (s.receiverStep_unready p _ _ unready) rfl)
  · exact exec_presented (exec_receiverLeaves hp runs due (s.receiverStep_quitOther p _ _ ready quit other) rfl)
  · exact exec_presented (exec_receiverLeaves hp runs due (s.receiverStep_quitReceiving p _ _ ready quit receiving) rfl)
  · exact exec_presented (exec_receiverLeaves hp runs due (s.receiverStep_still p _ _ ready quit still) rfl)
  · exact exec_presented (exec_receiverLeaves hp runs due (s.receiverStep_halting p _ _ ready quit offered halting) rfl)
  · exact ⟨fun g held => exec_presented (exec_receiverLeaves hp runs due (s.receiverStep_held p _ _ ready quit offered idle held) rfl),
      fun free last =>
        exec_presented (exec_receiverLeaves hp runs due (s.receiverStep_firstLast p _ _ ready quit offered idle free last) rfl),
      fun free more =>
        exec_presented (exec_receiverLeaves hp runs due (s.receiverStep_first p _ _ ready quit offered idle free more) rfl)⟩
  · have moves : ReceiverState.idle ≠ s.channels[p].receiver := by rw [receiving]; exact ReceiverState.noConfusion
    have completes (complete : judgeByte (s.lines[p].line == .ready) s.channels[p].partialMsg (s.peer p).byte
        (s.peer p).last = .complete) := s.receiverStep_complete p s.retire {} (c := { s.channels[p] with receiverDue := false })
      ready quit offered receiving complete rfl
    have routes {g : Message} (message : messageOf (s.channels[p].partialMsg ++ [(s.peer p).byte]) = some g)
        (kind : g.kind ≠ .identify) := s.completeMessage_routed p s.retire {} (c := { s.channels[p] with receiverDue := false })
      message kind
    refine ⟨fun reject => ?_, fun accept => ?_, fun g complete message kind => ?_, fun g complete message kind => ?_,
      fun g l ls complete message kind home pool => ?_⟩
    · exact exec_presented (exec_receiverLeaves hp runs due (s.receiverStep_reject p _ _ ready quit offered receiving reject rfl) rfl)
    · exact exec_presented (exec_receiverLeaves hp runs due (s.receiverStep_accept p _ _ ready quit offered receiving accept rfl) rfl)
    · exact exec_presented (exec_receiverLeaves hp runs due ((completes complete).trans
        (s.completeMessage_identify p _ _ message kind)) rfl)
    · exact exec_handed (exec_receiverRoutes hp runs due ((completes complete).trans (routes message kind)) moves)
    · have routed : g.kind ≠ .identify := by rw [kind]; exact MessageKind.noConfusion
      exact ⟨_, exec_receiverRoutes hp runs due ((completes complete).trans (routes message routed)) moves,
        State.handToRouter_delivered kind home pool⟩
  · exact ⟨fun unready =>
        exec_presented (exec_haltTimerExpiry_due hp halting timer late (s.receiverStep_unready p _ _ unready) rfl),
      fun ready quit => exec_presented (exec_haltTimerExpiry_due hp halting timer late
        (s.receiverStep_quitOther p _ _ ready quit ReceiverState.noConfusion) rfl),
      fun ready quit still =>
        exec_presented (exec_haltTimerExpiry_due hp halting timer late (s.receiverStep_still p _ _ ready quit still) rfl),
      fun g ready quit offered held => exec_presented (exec_haltTimerExpiry_due hp halting timer late
        (s.receiverStep_held p _ _ ready quit offered rfl held) rfl),
      fun ready quit offered free last => exec_presented (exec_haltTimerExpiry_due hp halting timer late
        (s.receiverStep_firstLast p _ _ ready quit offered rfl free last) rfl),
      fun ready quit offered free more => exec_presented (exec_haltTimerExpiry_due hp halting timer late
        (s.receiverStep_first p _ _ ready quit offered rfl free more) rfl)⟩

end Sys2Proof.Machine
end
